-- ==== Sys2Proof/Word.lean ====
section
/-! DEFINITION. The widths of ADD (00_scope.md R6): data bytes, CPU-bus addresses and slot parameters,
graphics-bus addresses, checksums and command words. -/

namespace Sys2Proof

/-- Every datum ADD moves (`DATA_W`, R6, R62); also the width of an owner reference (`OWNER_W`, R33). -/
abbrev Byte := BitVec 8

/-- A CPU-bus address (`CPU_ADDR_W`), a canonical register address, a slot parameter (`PARAM_W`) and a mapper
id (R6, R30, R35). -/
abbrev Word := BitVec 16

/-- A graphics-bus address: 13 bits (`GFX_ADDR_W`, R6, R61). -/
abbrev GfxAddr := BitVec 13

/-- The CRC32 of a PRG image (R35, R225). -/
abbrev Checksum := BitVec 32

/-- A command word (30_encoding.md R91). -/
abbrev CmdWord := BitVec 64

end Sys2Proof
end

