-- ==== Sys2Proof/Config.lean ====
section
/-! DEFINITION. What an implementation of ADD fixes (00_scope.md R6) and the free values of the spec. The free
values are opaque: nothing can be proved of them, so every statement holds whatever they are. -/

namespace Sys2Proof

/-- `CPU_SLOTS` (R6, R34). -/
abbrev Config.cpuSlotCount : Nat := 65536

/-- `GFX_SLOTS` (R6, R34). -/
abbrev Config.gfxSlotCount : Nat := 8192

/-- `CHR_RAM_BYTES` (R6, R36). -/
abbrev Config.chrRamBytes : Nat := 8192

/-- `Draw8()`, the floating value of an open-bus read (40_bus_dispatch.md R130, R137): a byte under no law, the
argument being the number of free bytes taken before. FREE VALUE, log entry 4. -/
opaque Config.openBus : Nat → Byte

/-- `ExtRead(owner, param, a)`, the byte a device outside ADD answers (40_bus_dispatch.md R131): an input of the
step, so the number of free bytes taken before is an argument too. FREE VALUE, log entry 5. -/
opaque Config.extRead : Nat → Byte → Word → Word → Byte

/-- `CHR_RAM_INIT` (10_state.md R36, 41_mapper_common.md R150): the byte at an offset of CHR-RAM that nothing has
written since the given draw (0 is power-on, `n` the `n`-th `INIT`). FREE VALUE, log entry 6. -/
opaque Config.chrRamInit : Nat → Nat → Byte

/-- `IRQ_DIV_N - 1`; see `Config.irqDivN`. -/
opaque Config.irqDivPred : Nat

/-- `IRQ_DIV_N`, CPU cycles per count in scanline mode: any natural number at least 1 (00_scope.md R6,
43_irq_counter.md R203). OPEN parameter, log entry 7. -/
def Config.irqDivN : Nat := Config.irqDivPred + 1

end Sys2Proof
end

