-- ==== Sys2Proof/Syntax.lean ====
section
/-! DEFINITION. The operations of ADD as syntax: one constructor of `Instr` per row of spec/opcode_table.json
(30_encoding.md R92, R108). -/

namespace Sys2Proof

/-- The read handler kinds (10_state.md R31), a closed set. -/
inductive ReadKind where
  | rOpen | rPrgFixed | rPrgSwap | rChr | rChrRam | rExt
  deriving DecidableEq, Repr

/-- The write handler kinds (10_state.md R32), a closed set. -/
inductive WriteKind where
  | wIgnore | wReg | wChrRam | wExt
  deriving DecidableEq, Repr

/-- The four mapper variants (45_mapper_variants.md R240). -/
inductive Variant where
  | v0 | v1 | v2 | v3
  deriving DecidableEq, Repr

/-- The formats of the opcode table (30_encoding.md R108): the command word and the register map of each variant. -/
inductive Format where
  | cmd
  | regw (v : Variant)
  deriving DecidableEq, Repr

/-- One constructor per row of the opcode table. The thirteen commands carry the operands of R92. A row of a
format `REGW` is one register of a variant's register map, reached by a `WR` or `GWR` through the `W_REG` handler
(41_mapper_common.md R156): it carries the canonical address `ca` and the data byte `v` (R100, R101). -/
inductive Instr where
  /-- CPU-bus read (R122). -/
  | rd (a : Word)
  /-- CPU-bus write (R123). -/
  | wr (a : Word) (v : Byte)
  /-- Graphics-bus read (R124). -/
  | grd (a : GfxAddr)
  /-- Graphics-bus write (R125). -/
  | gwr (a : GfxAddr) (v : Byte)
  /-- `SetReadFunc` on the CPU table (R126). -/
  | setrf (a : Word) (k : ReadKind) (o : Byte) (p : Word)
  /-- `SetWriteFunc` on the CPU table (R127). -/
  | setwf (a : Word) (k : WriteKind) (o : Byte) (p : Word)
  /-- `SetReadFunc` on the graphics table (R128). -/
  | gsetrf (a : GfxAddr) (k : ReadKind) (o : Byte) (p : Word)
  /-- `SetWriteFunc` on the graphics table (R129). -/
  | gsetwf (a : GfxAddr) (k : WriteKind) (o : Byte) (p : Word)
  /-- `InitWithRom` (R150); the image is a side input (R98). -/
  | init
  /-- `ApplyMap` (R151). -/
  | apply
  /-- One CPU cycle (R152). -/
  | tick
  /-- `ClassifyPcb` (R221). -/
  | classify (m : Word) (sub : Byte)
  /-- `LookupOverride` (R225). -/
  | lookup (c : Checksum)
  /-- `V0.PRGSEL`: data v[4:0] -> prgReg[0] (R242). -/
  | v0Prgsel (ca : Word) (v : Byte)
  /-- `V1.PRGSEL_MIRROR`: data v[2:0] -> prgReg[0], v[4] -> mirror (R247). -/
  | v1PrgselMirror (ca : Word) (v : Byte)
  /-- `V2.PRG0`: data v[4:0] -> prgReg[0] (R253). -/
  | v2Prg0 (ca : Word) (v : Byte)
  /-- `V2.MIRROR`: data v[1:0] -> mirror (R254). -/
  | v2Mirror (ca : Word) (v : Byte)
  /-- `V2.SWAPMODE_NOP`: masked no-op (R259). -/
  | v2SwapmodeNop (ca : Word) (v : Byte)
  /-- `V2.PRG1`: data v[4:0] -> prgReg[1] (R255). -/
  | v2Prg1 (ca : Word) (v : Byte)
  /-- `V2.CHR0_LO`: data v[3:0] -> low nibble of chrReg[0] (R256). -/
  | v2Chr0Lo (ca : Word) (v : Byte)
  /-- `V2.CHR0_HI`: data v[3:0] -> high nibble of chrReg[0] (R256). -/
  | v2Chr0Hi (ca : Word) (v : Byte)
  /-- `V2.CHR1_LO`: data v[3:0] -> low nibble of chrReg[1] (R256). -/
  | v2Chr1Lo (ca : Word) (v : Byte)
  /-- `V2.CHR1_HI`: data v[3:0] -> high nibble of chrReg[1] (R256). -/
  | v2Chr1Hi (ca : Word) (v : Byte)
  /-- `V2.CHR2_LO`: data v[3:0] -> low nibble of chrReg[2] (R256). -/
  | v2Chr2Lo (ca : Word) (v : Byte)
  /-- `V2.CHR2_HI`: data v[3:0] -> high nibble of chrReg[2] (R256). -/
  | v2Chr2Hi (ca : Word) (v : Byte)
  /-- `V2.CHR3_LO`: data v[3:0] -> low nibble of chrReg[3] (R256). -/
  | v2Chr3Lo (ca : Word) (v : Byte)
  /-- `V2.CHR3_HI`: data v[3:0] -> high nibble of chrReg[3] (R256). -/
  | v2Chr3Hi (ca : Word) (v : Byte)
  /-- `V2.CHR4_LO`: data v[3:0] -> low nibble of chrReg[4] (R256). -/
  | v2Chr4Lo (ca : Word) (v : Byte)
  /-- `V2.CHR4_HI`: data v[3:0] -> high nibble of chrReg[4] (R256). -/
  | v2Chr4Hi (ca : Word) (v : Byte)
  /-- `V2.CHR5_LO`: data v[3:0] -> low nibble of chrReg[5] (R256). -/
  | v2Chr5Lo (ca : Word) (v : Byte)
  /-- `V2.CHR5_HI`: data v[3:0] -> high nibble of chrReg[5] (R256). -/
  | v2Chr5Hi (ca : Word) (v : Byte)
  /-- `V2.CHR6_LO`: data v[3:0] -> low nibble of chrReg[6] (R256). -/
  | v2Chr6Lo (ca : Word) (v : Byte)
  /-- `V2.CHR6_HI`: data v[3:0] -> high nibble of chrReg[6] (R256). -/
  | v2Chr6Hi (ca : Word) (v : Byte)
  /-- `V2.CHR7_LO`: data v[3:0] -> low nibble of chrReg[7] (R256). -/
  | v2Chr7Lo (ca : Word) (v : Byte)
  /-- `V2.CHR7_HI`: data v[3:0] -> high nibble of chrReg[7] (R256). -/
  | v2Chr7Hi (ca : Word) (v : Byte)
  /-- `V2.IRQ_LATCH_LO`: data v[3:0] -> irq.latch[3:0] (R258). -/
  | v2IrqLatchLo (ca : Word) (v : Byte)
  /-- `V2.IRQ_LATCH_HI`: data v[3:0] -> irq.latch[7:4] (R258). -/
  | v2IrqLatchHi (ca : Word) (v : Byte)
  /-- `V2.IRQ_CONTROL`: IRQ.SetControl(v), rule R202 (R258). -/
  | v2IrqControl (ca : Word) (v : Byte)
  /-- `V2.IRQ_ACK`: IRQ.Ack, rule R204 (R258). -/
  | v2IrqAck (ca : Word) (v : Byte)
  /-- `V3.PRG0_16K`: data v[3:0] -> prgReg[0] (R263). -/
  | v3Prg0 (ca : Word) (v : Byte)
  /-- `V3.SOUND_9_NOP`: nop (audio out of scope) (R268). -/
  | v3Sound9Nop (ca : Word) (v : Byte)
  /-- `V3.SOUND_A_NOP`: nop (audio out of scope) (R268). -/
  | v3SoundANop (ca : Word) (v : Byte)
  /-- `V3.SOUND_B0_NOP`: nop (audio out of scope) (R268). -/
  | v3SoundB0Nop (ca : Word) (v : Byte)
  /-- `V3.SOUND_B1_NOP`: nop (audio out of scope) (R268). -/
  | v3SoundB1Nop (ca : Word) (v : Byte)
  /-- `V3.SOUND_B2_NOP`: nop (audio out of scope) (R268). -/
  | v3SoundB2Nop (ca : Word) (v : Byte)
  /-- `V3.BANKING_CONTROL`: data v[1:0] -> style, v[3:2] -> mirror (R266). -/
  | v3BankingControl (ca : Word) (v : Byte)
  /-- `V3.PRG1_8K`: data v[4:0] -> prgReg[1] (R264). -/
  | v3Prg1 (ca : Word) (v : Byte)
  /-- `V3.CHR0`: data v[7:0] -> chrReg[0] (R265). -/
  | v3Chr0 (ca : Word) (v : Byte)
  /-- `V3.CHR1`: data v[7:0] -> chrReg[1] (R265). -/
  | v3Chr1 (ca : Word) (v : Byte)
  /-- `V3.CHR2`: data v[7:0] -> chrReg[2] (R265). -/
  | v3Chr2 (ca : Word) (v : Byte)
  /-- `V3.CHR3`: data v[7:0] -> chrReg[3] (R265). -/
  | v3Chr3 (ca : Word) (v : Byte)
  /-- `V3.CHR4`: data v[7:0] -> chrReg[4] (R265). -/
  | v3Chr4 (ca : Word) (v : Byte)
  /-- `V3.CHR5`: data v[7:0] -> chrReg[5] (R265). -/
  | v3Chr5 (ca : Word) (v : Byte)
  /-- `V3.CHR6`: data v[7:0] -> chrReg[6] (R265). -/
  | v3Chr6 (ca : Word) (v : Byte)
  /-- `V3.CHR7`: data v[7:0] -> chrReg[7] (R265). -/
  | v3Chr7 (ca : Word) (v : Byte)
  /-- `V3.IRQ_LATCH`: data v[7:0] -> irq.latch (R269). -/
  | v3IrqLatch (ca : Word) (v : Byte)
  /-- `V3.IRQ_CONTROL`: IRQ.SetControl(v), rule R202 (R269). -/
  | v3IrqControl (ca : Word) (v : Byte)
  /-- `V3.IRQ_ACK`: IRQ.Ack, rule R204 (R269). -/
  | v3IrqAck (ca : Word) (v : Byte)
  /-- `V3.UNMATCHED_F3_NOP`: nop (R269). -/
  | v3UnmatchedF3Nop (ca : Word) (v : Byte)
  deriving DecidableEq, Repr

/-- The format of an instruction's row in the opcode table. -/
def Instr.format : Instr → Format
  | .rd _ | .wr _ _ | .grd _ | .gwr _ _ => .cmd
  | .setrf _ _ _ _ | .setwf _ _ _ _ | .gsetrf _ _ _ _ | .gsetwf _ _ _ _ => .cmd
  | .init | .apply | .tick | .classify _ _ | .lookup _ => .cmd
  | .v0Prgsel _ _ => .regw .v0
  | .v1PrgselMirror _ _ => .regw .v1
  | .v2Prg0 _ _ | .v2Mirror _ _ | .v2SwapmodeNop _ _ | .v2Prg1 _ _
  | .v2Chr0Lo _ _ | .v2Chr0Hi _ _ | .v2Chr1Lo _ _ | .v2Chr1Hi _ _
  | .v2Chr2Lo _ _ | .v2Chr2Hi _ _ | .v2Chr3Lo _ _ | .v2Chr3Hi _ _
  | .v2Chr4Lo _ _ | .v2Chr4Hi _ _ | .v2Chr5Lo _ _ | .v2Chr5Hi _ _
  | .v2Chr6Lo _ _ | .v2Chr6Hi _ _ | .v2Chr7Lo _ _ | .v2Chr7Hi _ _
  | .v2IrqLatchLo _ _ | .v2IrqLatchHi _ _ | .v2IrqControl _ _ | .v2IrqAck _ _ => .regw .v2
  | .v3Prg0 _ _ | .v3Sound9Nop _ _ | .v3SoundANop _ _ | .v3SoundB0Nop _ _
  | .v3SoundB1Nop _ _ | .v3SoundB2Nop _ _ | .v3BankingControl _ _ | .v3Prg1 _ _
  | .v3Chr0 _ _ | .v3Chr1 _ _ | .v3Chr2 _ _ | .v3Chr3 _ _
  | .v3Chr4 _ _ | .v3Chr5 _ _ | .v3Chr6 _ _ | .v3Chr7 _ _
  | .v3IrqLatch _ _ | .v3IrqControl _ _ | .v3IrqAck _ _ | .v3UnmatchedF3Nop _ _ => .regw .v3

end Sys2Proof
end

