-- ==== Sys2Proof/WellFormed.lean ====
section
/-! DEFINITION. When an instruction is one the opcode table lists. The operand types already rule out what
30_encoding.md R99 rules out of a command (a graphics address of more than 13 bits, a reserved handler kind), so
every command term is well formed; a register write is well formed when its canonical address is one the row
matches (R108). -/

namespace Sys2Proof

/-- A canonical address reaches a register row exactly when `ca & mask = match` (30_encoding.md R108). -/
def rowMatches (mask pattern ca : Word) : Bool := ca &&& mask == pattern

/-- The well-formed instructions: mask and match of every `REGW` row as spec/opcode_table.json gives them. -/
def Instr.wellFormed : Instr → Bool
  | .rd _ | .wr _ _ | .grd _ | .gwr _ _ => true
  | .setrf _ _ _ _ | .setwf _ _ _ _ | .gsetrf _ _ _ _ | .gsetwf _ _ _ _ => true
  | .init | .apply | .tick | .classify _ _ | .lookup _ => true
  | .v0Prgsel ca _ => rowMatches 0x8000 0x8000 ca
  | .v1PrgselMirror ca _ => rowMatches 0x8000 0x8000 ca
  | .v2Prg0 ca _ => rowMatches 0xF000 0x8000 ca
  | .v2Mirror ca _ => rowMatches 0xF002 0x9000 ca
  | .v2SwapmodeNop ca _ => rowMatches 0xF002 0x9002 ca
  | .v2Prg1 ca _ => rowMatches 0xF000 0xA000 ca
  | .v2Chr0Lo ca _ => rowMatches 0xF003 0xB000 ca
  | .v2Chr0Hi ca _ => rowMatches 0xF003 0xB001 ca
  | .v2Chr1Lo ca _ => rowMatches 0xF003 0xB002 ca
  | .v2Chr1Hi ca _ => rowMatches 0xF003 0xB003 ca
  | .v2Chr2Lo ca _ => rowMatches 0xF003 0xC000 ca
  | .v2Chr2Hi ca _ => rowMatches 0xF003 0xC001 ca
  | .v2Chr3Lo ca _ => rowMatches 0xF003 0xC002 ca
  | .v2Chr3Hi ca _ => rowMatches 0xF003 0xC003 ca
  | .v2Chr4Lo ca _ => rowMatches 0xF003 0xD000 ca
  | .v2Chr4Hi ca _ => rowMatches 0xF003 0xD001 ca
  | .v2Chr5Lo ca _ => rowMatches 0xF003 0xD002 ca
  | .v2Chr5Hi ca _ => rowMatches 0xF003 0xD003 ca
  | .v2Chr6Lo ca _ => rowMatches 0xF003 0xE000 ca
  | .v2Chr6Hi ca _ => rowMatches 0xF003 0xE001 ca
  | .v2Chr7Lo ca _ => rowMatches 0xF003 0xE002 ca
  | .v2Chr7Hi ca _ => rowMatches 0xF003 0xE003 ca
  | .v2IrqLatchLo ca _ => rowMatches 0xF003 0xF000 ca
  | .v2IrqLatchHi ca _ => rowMatches 0xF003 0xF001 ca
  | .v2IrqControl ca _ => rowMatches 0xF003 0xF002 ca
  | .v2IrqAck ca _ => rowMatches 0xF003 0xF003 ca
  | .v3Prg0 ca _ => rowMatches 0xF000 0x8000 ca
  | .v3Sound9Nop ca _ => rowMatches 0xF000 0x9000 ca
  | .v3SoundANop ca _ => rowMatches 0xF000 0xA000 ca
  | .v3SoundB0Nop ca _ => rowMatches 0xF003 0xB000 ca
  | .v3SoundB1Nop ca _ => rowMatches 0xF003 0xB001 ca
  | .v3SoundB2Nop ca _ => rowMatches 0xF003 0xB002 ca
  | .v3BankingControl ca _ => rowMatches 0xF003 0xB003 ca
  | .v3Prg1 ca _ => rowMatches 0xF000 0xC000 ca
  | .v3Chr0 ca _ => rowMatches 0xF003 0xD000 ca
  | .v3Chr1 ca _ => rowMatches 0xF003 0xD001 ca
  | .v3Chr2 ca _ => rowMatches 0xF003 0xD002 ca
  | .v3Chr3 ca _ => rowMatches 0xF003 0xD003 ca
  | .v3Chr4 ca _ => rowMatches 0xF003 0xE000 ca
  | .v3Chr5 ca _ => rowMatches 0xF003 0xE001 ca
  | .v3Chr6 ca _ => rowMatches 0xF003 0xE002 ca
  | .v3Chr7 ca _ => rowMatches 0xF003 0xE003 ca
  | .v3IrqLatch ca _ => rowMatches 0xF003 0xF000 ca
  | .v3IrqControl ca _ => rowMatches 0xF003 0xF001 ca
  | .v3IrqAck ca _ => rowMatches 0xF003 0xF002 ca
  | .v3UnmatchedF3Nop ca _ => rowMatches 0xF003 0xF003 ca

end Sys2Proof
end

