-- ==== Sys2Proof/Decode.lean ====
section
/-! DEFINITION. The decoder of ADD (30_encoding.md): a command word to an operation or a reason why it is none
(R91 to R99), a canonical address to a register of a variant's map (R100, R101, R108), and after them the encoder.
Total on any bytes. -/

namespace Sys2Proof

/-- Why bytes are not an instruction (30_encoding.md R99; the last two are about the bytes, not the word). -/
inductive Reject where
  /-- `OP` is not in the table of R92. -/
  | unknownOp
  /-- The reserved field `RSV` is not zero. -/
  | reservedNotZero
  /-- A field the operation does not use is not zero (R97). -/
  | unusedNotZero
  /-- A graphics operation has `ADDR[15:13]` not zero. -/
  | graphicsAddress
  /-- `SETRF` or `GSETRF` has a reserved read-kind code (above 5). -/
  | readKindCode
  /-- `SETWF` or `GSETWF` has a reserved write-kind code (above 3). -/
  | writeKindCode
  /-- No row of the variant's register map matches the canonical address (R103): the write reaches no register. -/
  | noRegister
  /-- Fewer bytes than the format has. -/
  | truncated
  deriving DecidableEq, Repr

/-- The fields of a command word (R91). -/
def CmdWord.op (w : CmdWord) : BitVec 8 := w.extractLsb' 56 8
def CmdWord.addr (w : CmdWord) : Word := w.extractLsb' 40 16
def CmdWord.param (w : CmdWord) : Word := w.extractLsb' 24 16
def CmdWord.data (w : CmdWord) : Byte := w.extractLsb' 16 8
def CmdWord.owner (w : CmdWord) : Byte := w.extractLsb' 8 8
def CmdWord.rsv (w : CmdWord) : BitVec 8 := w.extractLsb' 0 8

/-- A read-kind code (10_state.md R31; 6 and above are reserved). -/
def readKindOfCode (d : Byte) : Option ReadKind :=
  match d with
  | 0#8 => some .rOpen
  | 1#8 => some .rPrgFixed
  | 2#8 => some .rPrgSwap
  | 3#8 => some .rChr
  | 4#8 => some .rChrRam
  | 5#8 => some .rExt
  | _ => none

/-- The code of a read kind (10_state.md R31). -/
def readKindCode : ReadKind → Byte
  | .rOpen => 0 | .rPrgFixed => 1 | .rPrgSwap => 2 | .rChr => 3 | .rChrRam => 4 | .rExt => 5

/-- A write-kind code (10_state.md R32; 4 and above are reserved). -/
def writeKindOfCode (d : Byte) : Option WriteKind :=
  match d with
  | 0#8 => some .wIgnore
  | 1#8 => some .wReg
  | 2#8 => some .wChrRam
  | 3#8 => some .wExt
  | _ => none

/-- The code of a write kind (10_state.md R32). -/
def writeKindCode : WriteKind → Byte
  | .wIgnore => 0 | .wReg => 1 | .wChrRam => 2 | .wExt => 3

/-- The 13-bit address of a graphics operation; `ADDR[15:13]` must be zero (R93). -/
def gfxAddrOf (a : Word) : Option GfxAddr :=
  if a.extractLsb' 13 3 = 0#3 then some (a.extractLsb' 0 13) else none

/-- Answers the instruction when the fields the operation does not use are zero (R97). -/
def unusedZero (ok : Bool) (i : Instr) : Except Reject Instr :=
  if ok then .ok i else .error .unusedNotZero

/-- A graphics operation on the address field, if the field is a graphics address (R93, R99). -/
def withGfxAddr (a : Word) (k : GfxAddr → Except Reject Instr) : Except Reject Instr :=
  match gfxAddrOf a with
  | some g => k g
  | none => .error .graphicsAddress

/-- A read-slot operation on the kind code, if it is not reserved (R95, R99). -/
def withReadKind (d : Byte) (k : ReadKind → Except Reject Instr) : Except Reject Instr :=
  match readKindOfCode d with
  | some r => k r
  | none => .error .readKindCode

/-- A write-slot operation on the kind code, if it is not reserved (R95, R99). -/
def withWriteKind (d : Byte) (k : WriteKind → Except Reject Instr) : Except Reject Instr :=
  match writeKindOfCode d with
  | some r => k r
  | none => .error .writeKindCode

/-- The operation an operation code names, with its operands (R92, R93), once `RSV` is known to be zero. -/
def decodeOp (op : BitVec 8) (addr param : Word) (data owner : Byte) : Except Reject Instr :=
  match op with
  | 0x01#8 => unusedZero (param == 0 && data == 0 && owner == 0) (.rd addr)
  | 0x02#8 => unusedZero (param == 0 && owner == 0) (.wr addr data)
  | 0x03#8 => withGfxAddr addr fun g => unusedZero (param == 0 && data == 0 && owner == 0) (.grd g)
  | 0x04#8 => withGfxAddr addr fun g => unusedZero (param == 0 && owner == 0) (.gwr g data)
  | 0x10#8 => withReadKind data fun k => .ok (.setrf addr k owner param)
  | 0x11#8 => withWriteKind data fun k => .ok (.setwf addr k owner param)
  | 0x12#8 => withGfxAddr addr fun g => withReadKind data fun k => .ok (.gsetrf g k owner param)
  | 0x13#8 => withGfxAddr addr fun g => withWriteKind data fun k => .ok (.gsetwf g k owner param)
  | 0x20#8 => unusedZero (addr == 0 && param == 0 && data == 0 && owner == 0) .init
  | 0x21#8 => unusedZero (addr == 0 && param == 0 && data == 0 && owner == 0) .apply
  | 0x30#8 => unusedZero (addr == 0 && param == 0 && data == 0 && owner == 0) .tick
  | 0x40#8 => unusedZero (param == 0 && owner == 0) (.classify addr data)
  | 0x41#8 => unusedZero (data == 0 && owner == 0) (.lookup (addr ++ param))
  | _ => .error .unknownOp

/-- A command word to its operation (R91 to R99). -/
def decodeCmd (w : CmdWord) : Except Reject Instr :=
  if w.rsv = 0 then decodeOp w.op w.addr w.param w.data w.owner else .error .reservedNotZero

/-- The register group of a canonical address, `g = ca[15:12]` (R100). -/
def regGroup (ca : Word) : BitVec 4 := ca.extractLsb' 12 4

/-- The selector of a canonical address, `sel = ca[1:0]` (R100). -/
def regSel (ca : Word) : BitVec 2 := ca.extractLsb' 0 2

/-- The registers of V2 by group and selector (45_mapper_variants.md R253 to R259). -/
def decodeV2 (ca : Word) (v : Byte) : Option Instr :=
  match regGroup ca, regSel ca with
  | 0x8#4, _ => some (.v2Prg0 ca v)
  | 0x9#4, 0#2 | 0x9#4, 1#2 => some (.v2Mirror ca v)
  | 0x9#4, 2#2 | 0x9#4, 3#2 => some (.v2SwapmodeNop ca v)
  | 0xA#4, _ => some (.v2Prg1 ca v)
  | 0xB#4, 0#2 => some (.v2Chr0Lo ca v)
  | 0xB#4, 1#2 => some (.v2Chr0Hi ca v)
  | 0xB#4, 2#2 => some (.v2Chr1Lo ca v)
  | 0xB#4, 3#2 => some (.v2Chr1Hi ca v)
  | 0xC#4, 0#2 => some (.v2Chr2Lo ca v)
  | 0xC#4, 1#2 => some (.v2Chr2Hi ca v)
  | 0xC#4, 2#2 => some (.v2Chr3Lo ca v)
  | 0xC#4, 3#2 => some (.v2Chr3Hi ca v)
  | 0xD#4, 0#2 => some (.v2Chr4Lo ca v)
  | 0xD#4, 1#2 => some (.v2Chr4Hi ca v)
  | 0xD#4, 2#2 => some (.v2Chr5Lo ca v)
  | 0xD#4, 3#2 => some (.v2Chr5Hi ca v)
  | 0xE#4, 0#2 => some (.v2Chr6Lo ca v)
  | 0xE#4, 1#2 => some (.v2Chr6Hi ca v)
  | 0xE#4, 2#2 => some (.v2Chr7Lo ca v)
  | 0xE#4, 3#2 => some (.v2Chr7Hi ca v)
  | 0xF#4, 0#2 => some (.v2IrqLatchLo ca v)
  | 0xF#4, 1#2 => some (.v2IrqLatchHi ca v)
  | 0xF#4, 2#2 => some (.v2IrqControl ca v)
  | 0xF#4, 3#2 => some (.v2IrqAck ca v)
  | _, _ => none

/-- The registers of V3 by group and selector (45_mapper_variants.md R263 to R269). -/
def decodeV3 (ca : Word) (v : Byte) : Option Instr :=
  match regGroup ca, regSel ca with
  | 0x8#4, _ => some (.v3Prg0 ca v)
  | 0x9#4, _ => some (.v3Sound9Nop ca v)
  | 0xA#4, _ => some (.v3SoundANop ca v)
  | 0xB#4, 0#2 => some (.v3SoundB0Nop ca v)
  | 0xB#4, 1#2 => some (.v3SoundB1Nop ca v)
  | 0xB#4, 2#2 => some (.v3SoundB2Nop ca v)
  | 0xB#4, 3#2 => some (.v3BankingControl ca v)
  | 0xC#4, _ => some (.v3Prg1 ca v)
  | 0xD#4, 0#2 => some (.v3Chr0 ca v)
  | 0xD#4, 1#2 => some (.v3Chr1 ca v)
  | 0xD#4, 2#2 => some (.v3Chr2 ca v)
  | 0xD#4, 3#2 => some (.v3Chr3 ca v)
  | 0xE#4, 0#2 => some (.v3Chr4 ca v)
  | 0xE#4, 1#2 => some (.v3Chr5 ca v)
  | 0xE#4, 2#2 => some (.v3Chr6 ca v)
  | 0xE#4, 3#2 => some (.v3Chr7 ca v)
  | 0xF#4, 0#2 => some (.v3IrqLatch ca v)
  | 0xF#4, 1#2 => some (.v3IrqControl ca v)
  | 0xF#4, 2#2 => some (.v3IrqAck ca v)
  | 0xF#4, 3#2 => some (.v3UnmatchedF3Nop ca v)
  | _, _ => none

/-- The register of a variant's map that a canonical address reaches, with the data byte (R100, R108); `none`
where no row matches (R103). V0 and V1 decode bit 15 alone (R242, R247). -/
def decodeReg (m : Variant) (ca : Word) (v : Byte) : Option Instr :=
  match m with
  | .v0 => if ca.getLsbD 15 then some (.v0Prgsel ca v) else none
  | .v1 => if ca.getLsbD 15 then some (.v1PrgselMirror ca v) else none
  | .v2 => decodeV2 ca v
  | .v3 => decodeV3 ca v

/-- Eight bytes as a command word, most significant byte first (R91), with the bytes after them. -/
def wordOfBytes : List Byte → Option (CmdWord × List Byte)
  | b7 :: b6 :: b5 :: b4 :: b3 :: b2 :: b1 :: b0 :: rest =>
    some (b7 ++ b6 ++ b5 ++ b4 ++ b3 ++ b2 ++ b1 ++ b0, rest)
  | _ => none

/-- A canonical address, most significant byte first, and a data byte, with the bytes after them (log entry 13). -/
def regOfBytes : List Byte → Option (Word × Byte × List Byte)
  | hi :: lo :: v :: rest => some (hi ++ lo, v, rest)
  | _ => none

/-- The decoder: the instruction of a format that bytes begin with, and the bytes after it. -/
def decode (f : Format) (bs : List Byte) : Except Reject (Instr × List Byte) :=
  match f with
  | .cmd =>
    match wordOfBytes bs with
    | some (w, rest) =>
      match decodeCmd w with
      | .ok i => .ok (i, rest)
      | .error e => .error e
    | none => .error .truncated
  | .regw m =>
    match regOfBytes bs with
    | some (ca, v, rest) =>
      match decodeReg m ca v with
      | some i => .ok (i, rest)
      | none => .error .noRegister
    | none => .error .truncated

/-- A command word from its fields, `RSV` zero (R91). -/
def cmdWord (op : BitVec 8) (addr param : Word) (data owner : Byte) : CmdWord :=
  op ++ addr ++ param ++ data ++ owner ++ 0#8

/-- A graphics address as the `ADDR` field (R93), and as the address a handler is given (R134). -/
def gfxWord (g : GfxAddr) : Word := g.zeroExtend 16

/-- The command word of a command (R92); a register write has none. -/
def encodeCmd : Instr → Option CmdWord
  | .rd a => some (cmdWord 0x01 a 0 0 0)
  | .wr a v => some (cmdWord 0x02 a 0 v 0)
  | .grd g => some (cmdWord 0x03 (gfxWord g) 0 0 0)
  | .gwr g v => some (cmdWord 0x04 (gfxWord g) 0 v 0)
  | .setrf a k o p => some (cmdWord 0x10 a p (readKindCode k) o)
  | .setwf a k o p => some (cmdWord 0x11 a p (writeKindCode k) o)
  | .gsetrf g k o p => some (cmdWord 0x12 (gfxWord g) p (readKindCode k) o)
  | .gsetwf g k o p => some (cmdWord 0x13 (gfxWord g) p (writeKindCode k) o)
  | .init => some (cmdWord 0x20 0 0 0 0)
  | .apply => some (cmdWord 0x21 0 0 0 0)
  | .tick => some (cmdWord 0x30 0 0 0 0)
  | .classify m sub => some (cmdWord 0x40 m 0 sub 0)
  | .lookup c => some (cmdWord 0x41 (c.extractLsb' 16 16) (c.extractLsb' 0 16) 0 0)
  | .v0Prgsel _ _ | .v1PrgselMirror _ _ | .v2Prg0 _ _ | .v2Mirror _ _
  | .v2SwapmodeNop _ _ | .v2Prg1 _ _ | .v2Chr0Lo _ _ | .v2Chr0Hi _ _
  | .v2Chr1Lo _ _ | .v2Chr1Hi _ _ | .v2Chr2Lo _ _ | .v2Chr2Hi _ _
  | .v2Chr3Lo _ _ | .v2Chr3Hi _ _ | .v2Chr4Lo _ _ | .v2Chr4Hi _ _
  | .v2Chr5Lo _ _ | .v2Chr5Hi _ _ | .v2Chr6Lo _ _ | .v2Chr6Hi _ _
  | .v2Chr7Lo _ _ | .v2Chr7Hi _ _ | .v2IrqLatchLo _ _ | .v2IrqLatchHi _ _
  | .v2IrqControl _ _ | .v2IrqAck _ _ | .v3Prg0 _ _ | .v3Sound9Nop _ _
  | .v3SoundANop _ _ | .v3SoundB0Nop _ _ | .v3SoundB1Nop _ _ | .v3SoundB2Nop _ _
  | .v3BankingControl _ _ | .v3Prg1 _ _ | .v3Chr0 _ _ | .v3Chr1 _ _
  | .v3Chr2 _ _ | .v3Chr3 _ _ | .v3Chr4 _ _ | .v3Chr5 _ _
  | .v3Chr6 _ _ | .v3Chr7 _ _ | .v3IrqLatch _ _ | .v3IrqControl _ _
  | .v3IrqAck _ _ | .v3UnmatchedF3Nop _ _ => none

/-- The canonical address and data byte of a register write (R100, R101); a command has none. -/
def Instr.regWord : Instr → Option (Word × Byte)
  | .rd _ | .wr _ _ | .grd _ | .gwr _ _ => none
  | .setrf _ _ _ _ | .setwf _ _ _ _ | .gsetrf _ _ _ _ | .gsetwf _ _ _ _ => none
  | .init | .apply | .tick | .classify _ _ | .lookup _ => none
  | .v0Prgsel ca v | .v1PrgselMirror ca v | .v2Prg0 ca v | .v2Mirror ca v
  | .v2SwapmodeNop ca v | .v2Prg1 ca v | .v2Chr0Lo ca v | .v2Chr0Hi ca v
  | .v2Chr1Lo ca v | .v2Chr1Hi ca v | .v2Chr2Lo ca v | .v2Chr2Hi ca v
  | .v2Chr3Lo ca v | .v2Chr3Hi ca v | .v2Chr4Lo ca v | .v2Chr4Hi ca v
  | .v2Chr5Lo ca v | .v2Chr5Hi ca v | .v2Chr6Lo ca v | .v2Chr6Hi ca v
  | .v2Chr7Lo ca v | .v2Chr7Hi ca v | .v2IrqLatchLo ca v | .v2IrqLatchHi ca v
  | .v2IrqControl ca v | .v2IrqAck ca v | .v3Prg0 ca v | .v3Sound9Nop ca v
  | .v3SoundANop ca v | .v3SoundB0Nop ca v | .v3SoundB1Nop ca v | .v3SoundB2Nop ca v
  | .v3BankingControl ca v | .v3Prg1 ca v | .v3Chr0 ca v | .v3Chr1 ca v
  | .v3Chr2 ca v | .v3Chr3 ca v | .v3Chr4 ca v | .v3Chr5 ca v
  | .v3Chr6 ca v | .v3Chr7 ca v | .v3IrqLatch ca v | .v3IrqControl ca v
  | .v3IrqAck ca v | .v3UnmatchedF3Nop ca v => some (ca, v)

/-- A command word as eight bytes, most significant first (R91). -/
def bytesOfWord (w : CmdWord) : List Byte :=
  [w.extractLsb' 56 8, w.extractLsb' 48 8, w.extractLsb' 40 8, w.extractLsb' 32 8,
   w.extractLsb' 24 8, w.extractLsb' 16 8, w.extractLsb' 8 8, w.extractLsb' 0 8]

/-- A canonical address and a data byte as three bytes (log entry 13). -/
def bytesOfReg (ca : Word) (v : Byte) : List Byte := [ca.extractLsb' 8 8, ca.extractLsb' 0 8, v]

/-- The encoder: the bytes of an instruction in its own format. -/
def encode (i : Instr) : List Byte :=
  match encodeCmd i with
  | some w => bytesOfWord w
  | none =>
    match i.regWord with
    | some (ca, v) => bytesOfReg ca v
    | none => []

/-- The register map under which a table word of 16 bits is read: such a word does not say which variant it
belongs to, the state does (R104). Log entry 12. -/
def tableWordVariant : Variant := .v2

/-- The bytes of an instruction numbered as spec/opcode_table.json numbers its bits: a command word of 64 bits, or
a canonical address of 16 bits with the data byte above it. -/
def tableWordBytes (nbits w : Nat) : Format × List Byte :=
  if 24 < nbits then (.cmd, bytesOfWord (BitVec.ofNat 64 w))
  else (.regw tableWordVariant, bytesOfReg (BitVec.ofNat 16 w) (BitVec.ofNat 8 (w >>> 16)))

/-- The instruction the decoder reads from a table word; `none` where it refuses. -/
def decodeTableWord (nbits w : Nat) : Option Instr :=
  match decode (tableWordBytes nbits w).1 (tableWordBytes nbits w).2 with
  | .ok (i, _) => some i
  | .error _ => none

end Sys2Proof
end

