-- ==== Sys2Proof/Machine/State.lean ====
section
/-! DEFINITION. Everything ADD holds (10_state.md R20 to R45), as plain data, and its power-on value (R43, R320),
with the model's own inputs, outputs and draw counters (log entries 1 to 6). -/

namespace Sys2Proof.Machine

/-- The five modes the output `nt_mode` can carry (46_mirroring_selector.md R280): `MIR_H`, `MIR_V`, `MIR_1A`,
`MIR_1B`, `MIR_4`. -/
inductive NtMode where
  | horizontal | vertical | singleA | singleB | fourScreen
  deriving DecidableEq, Repr

/-- The six values of the mirroring-mode register (10_state.md R25): a mode, or `MIR_NONE`. -/
inductive Mirror where
  | mode (m : NtMode)
  | noOverride
  deriving DecidableEq, Repr

/-- The PCB classes (44_pcb_and_override.md R220). -/
inductive PcbClass where
  | fixswap | one32k
  | vrc24A0A1 | vrc24A1A0 | vrc24A1A2 | vrc24A2A3 | vrc24A3A2 | vrc24A6A7
  | vrc6A0A1 | vrc6A1A0
  deriving DecidableEq, Repr

/-- A slot of a dispatch table: handler kind, owner and parameter for each direction (10_state.md R30). -/
structure Slot where
  rk : ReadKind
  ro : Byte
  rp : Word
  wk : WriteKind
  wo : Byte
  wp : Word
  deriving DecidableEq, Repr

/-- The default slot (10_state.md R34). -/
def Slot.default : Slot := { rk := .rOpen, ro := 0, rp := 0, wk := .wIgnore, wo := 0, wp := 0 }

/-- A dispatch table as the list of its changes, by rising address: `(n, x)` says that from address `n` on the
slots are `x`, up to the next entry; below the first entry they are the default slot (log entry 10). -/
abbrev SlotTable := List (Nat × Slot)

/-- A byte store as the list of its listed cells, by rising offset. What an offset that is not listed reads as is
said where the store is read: in `ByteSeq.byteAt` for a ROM, in `State.chrRamByte` for CHR-RAM. -/
abbrev Memory := List Host.Cell

/-- A sequence of bytes (10_state.md R35): its length, and its bytes that are not zero (log entry 9). -/
structure ByteSeq where
  length : Nat
  cells : Memory
  deriving DecidableEq, Repr

/-- The empty sequence. -/
def ByteSeq.empty : ByteSeq := { length := 0, cells := [] }

/-- The ROM image (10_state.md R35). -/
structure RomImage where
  prg : ByteSeq
  chr : ByteSeq
  mapperId : Word
  subMapperId : Byte
  declMirror : NtMode
  region : Byte
  crc : Checksum
  chrRamSize : Nat
  deriving DecidableEq, Repr

/-- The image of power-on (10_state.md R35). -/
def RomImage.empty : RomImage :=
  { prg := .empty, chr := .empty, mapperId := 0, subMapperId := 0, declMirror := .horizontal, region := 0,
    crc := 0, chrRamSize := 0 }

/-- The IRQ counter (10_state.md R20, R24, R37, R38). -/
structure Irq where
  latch : Byte
  counter : Byte
  enabled : Bool
  cycleMode : Bool
  pending : Bool
  divPhase : Nat
  deriving DecidableEq, Repr

/-- The IRQ counter at power-on and after `INIT` (10_state.md R43). -/
def Irq.reset : Irq :=
  { latch := 0, counter := 0, enabled := false, cycleMode := false, pending := false, divPhase := 0 }

/-- An entry of the ROM override database (44_pcb_and_override.md R226); a mapper of `0xFFFF` and a PRG size of 0
mean none. -/
structure OverrideEntry where
  checksum : Checksum
  mir : Option NtMode
  region : Option Byte
  mapper : Word
  prgSize : Nat
  deriving DecidableEq, Repr

/-- The events ADD emits (10_state.md R41). -/
inductive Event where
  /-- `INIT` of an image whose mapper id is not in the classification table (R222). -/
  | unknownMapper (m : Word) (sub : Byte)
  /-- A write handed to a device outside ADD (R133). -/
  | extWrite (o : Byte) (p a : Word) (v : Byte)
  /-- The mirroring mode, at a mirroring register write and at step (e) of `APPLY` (R282, R284). -/
  | ntMode (m : NtMode)
  /-- An edge of `irq_line` (R208). -/
  | irqLine (level : Bool)
  deriving DecidableEq, Repr

/-- The result of an operation (00_scope.md R10): none, a byte (`RD`, `GRD`), a class (`CLASSIFY`), an override
entry or none (`LOOKUP`). -/
inductive Result where
  | none
  | byte (b : Byte)
  | pcbClass (c : PcbClass)
  | entry (e : Option OverrideEntry)
  deriving DecidableEq, Repr

/-- One operation of a trace: its command word, and the ROM image named beside it, if one is (30_encoding.md R98,
R106). -/
structure TraceLine where
  word : CmdWord
  image : Option RomImage
  deriving DecidableEq, Repr

/-- The state of ADD (10_state.md R20), then the model's own fields. -/
structure State where
  /-- The CPU slot table (R34). -/
  cpuSlots : SlotTable
  /-- The graphics slot table (R34). -/
  gfxSlots : SlotTable
  /-- The ROM image (R35). -/
  rom : RomImage
  /-- The bytes of CHR-RAM written since the last `INIT` (R36). -/
  chrRam : Memory
  /-- The PCB class (R27). -/
  pcbClass : PcbClass
  /-- The PRG bank-select registers (R21). -/
  prgReg : Vector Byte 2
  /-- The CHR bank-select registers (R22). -/
  chrReg : Vector Byte 8
  /-- The mirroring-mode register (R25). -/
  mirror : Mirror
  /-- The PPU-banking style (R26). -/
  style : BitVec 2
  /-- The fixed-bank byte offset (R28). -/
  fixedOffset : Nat
  /-- The PRG-size override (R45); no rule reads it. -/
  prgSizeOverride : Nat
  /-- The IRQ counter (R24, R37, R38). -/
  irq : Irq
  /-- MODEL'S OWN: the operations still to be performed (log entry 1). -/
  trace : List TraceLine
  /-- MODEL'S OWN: the image on the side input of `INIT` (log entry 2). -/
  imageIn : RomImage
  /-- MODEL'S OWN: how many free bytes have been taken (log entries 4 and 5). -/
  draws : Nat
  /-- MODEL'S OWN: the draw the unwritten bytes of CHR-RAM come from (log entry 6). -/
  chrRamDraw : Nat
  /-- MODEL'S OWN: the result of the last operation (log entry 3). -/
  result : Result
  /-- MODEL'S OWN: the events emitted so far, oldest first (log entry 3). -/
  events : List Event
  deriving DecidableEq, Repr

/-- Power-on (10_state.md R43, 70_reset_and_hazards.md R320). The model's own fields: DESIGN CHOICE, log entries
1 to 6. -/
def State.reset : State :=
  { cpuSlots := []
    gfxSlots := []
    rom := .empty
    chrRam := []
    pcbClass := .fixswap
    prgReg := Vector.replicate 2 0
    chrReg := Vector.replicate 8 0
    mirror := .noOverride
    style := 0
    fixedOffset := 0
    prgSizeOverride := 0
    irq := .reset
    trace := []
    imageIn := .empty
    draws := 0
    chrRamDraw := 0
    result := .none
    events := [] }

/-- Why a step faults: never. "ADD raises no synchronous exception" (60_exceptions.md R290) and "No bus operation
fails, traps or blocks, at any address, in any state" (40_bus_dispatch.md R135), so there is no reason to name
(log entry 16). -/
inductive Fault where
  deriving DecidableEq, Repr

/-- Why a step has no next state. -/
inductive Refusal where
  /-- Raised by an arm of `exec` whose instruction has no meaning yet: no arm does. Safe. -/
  | notModelled (mnemonic : String)
  /-- Raised by `step` alone, for a 64-bit word that is not a command: "a model must refuse it" (30_encoding.md
  R99). Safe: the hardware performs a no-op, the model stops (log entry 11). -/
  | notACommand (why : Reject)
  deriving DecidableEq, Repr

end Sys2Proof.Machine
end

