-- ==== Sys2Proof/Machine/SlotTable.lean ====
section
/-! DEFINITION. The dispatch tables (10_state.md R30, R34): reading a slot and changing the slots of an address
range, over the canonical list of changes (log entry 10). -/

namespace Sys2Proof.Machine

/-- The slot at an address, where `d` is the slot in force below the list's first entry. -/
def SlotTable.getFrom (d : Slot) : SlotTable → Nat → Slot
  | [], _ => d
  | (n, x) :: t, a => if a < n then d else SlotTable.getFrom x t a

/-- The slot at an address (40_bus_dispatch.md R120). -/
def SlotTable.get (t : SlotTable) (a : Nat) : Slot := SlotTable.getFrom Slot.default t a

/-- Puts a change to `x` at address `n` before a list of later changes, `d` being the slot in force before it; leaves
out a change that changes nothing, and one that is overridden at the same address. -/
def SlotTable.put (d : Slot) (n : Nat) (x : Slot) : SlotTable → SlotTable
  | [] => if x = d then [] else [(n, x)]
  | (m, y) :: t =>
    if m ≤ n then SlotTable.put d n y t
    else if x = d then (m, y) :: t
    else (n, x) :: (m, y) :: t

/-- The changes from inside a range on, where `g` applies up to the range's end `hi` and `d` is the slot in force
before it is applied. -/
def SlotTable.modifyInside (g : Slot → Slot) (hi : Nat) (d : Slot) : SlotTable → SlotTable
  | [] => SlotTable.put (g d) hi d []
  | (n, x) :: t =>
    if hi ≤ n then SlotTable.put (g d) hi d ((n, x) :: t)
    else SlotTable.put (g d) n (g x) (SlotTable.modifyInside g hi x t)

/-- `g` applied to the slots of the addresses from `lo` to `hi - 1`, where `d` is the slot in force before the
list's first entry; `lo < hi`. -/
def SlotTable.modifyFrom (g : Slot → Slot) (lo hi : Nat) (d : Slot) : SlotTable → SlotTable
  | [] => SlotTable.put d lo (g d) (SlotTable.modifyInside g hi d [])
  | (n, x) :: t =>
    if lo < n then SlotTable.put d lo (g d) (SlotTable.modifyInside g hi d ((n, x) :: t))
    else SlotTable.put d n x (SlotTable.modifyFrom g lo hi x t)

/-- `g` applied to the slots of the addresses from `base` to `base + size - 1`. -/
def SlotTable.modify (t : SlotTable) (base size : Nat) (g : Slot → Slot) : SlotTable :=
  if size = 0 then t else SlotTable.modifyFrom g base (base + size) Slot.default t

/-- The read half of a slot replaced (40_bus_dispatch.md R126). -/
def Slot.setRead (k : ReadKind) (o : Byte) (p : Word) (x : Slot) : Slot := { x with rk := k, ro := o, rp := p }

/-- The write half of a slot replaced (40_bus_dispatch.md R127). -/
def Slot.setWrite (k : WriteKind) (o : Byte) (p : Word) (x : Slot) : Slot := { x with wk := k, wo := o, wp := p }

/-- The changes from address `lo` on, each to a slot different from the one before it, none above `top`. -/
def SlotTable.canonicalFrom (top : Nat) (d : Slot) (lo : Nat) : SlotTable → Bool
  | [] => true
  | (n, x) :: t => decide (lo ≤ n) && decide (n ≤ top) && decide (x ≠ d) && SlotTable.canonicalFrom top x (n + 1) t

/-- The canonical form of a table of `size` slots: addresses strictly rising, no entry that changes nothing, and the
default slot from `size` on. -/
def SlotTable.wf (size : Nat) (t : SlotTable) : Bool :=
  SlotTable.canonicalFrom size Slot.default 0 t && decide (SlotTable.get t size = Slot.default)

end Sys2Proof.Machine
end

