-- ==== Sys2Proof/Machine/Ops.lean ====
section
/-! DEFINITION. The named operations over the state: byte stores, registers, draws, results, events, the interrupt
line and the arrival of an operation. -/

namespace Sys2Proof.Machine

/-! ### Byte stores -/

/-- The byte listed at an offset, if one is. -/
def Memory.find (m : Memory) (a : Nat) : Option Byte :=
  match m with
  | [] => none
  | (n, b) :: t => if a = n then some b else Memory.find t a

/-- Lists a byte at an offset in the place its offset has, in place of the byte listed there. -/
def Memory.insert (m : Memory) (a : Nat) (b : Byte) : Memory :=
  match m with
  | [] => [(a, b)]
  | (n, c) :: t =>
    if a < n then (a, b) :: (n, c) :: t
    else if a = n then (a, b) :: t
    else (n, c) :: Memory.insert t a b

/-- The canonical form from offset `lo` on: offsets strictly rising, each below `size`. -/
def Memory.wfFrom (size lo : Nat) (m : Memory) : Bool :=
  match m with
  | [] => true
  | (n, _) :: t => decide (lo ≤ n) && decide (n < size) && Memory.wfFrom size (n + 1) t

/-- The canonical form of a store of `size` bytes: offsets strictly rising, each below `size`. -/
def Memory.wf (size : Nat) (m : Memory) : Bool := Memory.wfFrom size 0 m

/-- The byte at an offset of a sequence, `none` at and beyond its length: a listed byte, and zero where none is
listed (log entry 9). -/
def ByteSeq.byteAt (q : ByteSeq) (off : Nat) : Option Byte :=
  if off < q.length then some ((Memory.find q.cells off).getD 0) else none

/-- The canonical form of a byte sequence: its cells rising, below its length, none zero. -/
def ByteSeq.wf (q : ByteSeq) : Bool := Memory.wf q.length q.cells && q.cells.all fun c => c.2 != 0

/-- The cells of the bytes of a list that are not zero, the first byte at offset `n`. -/
def ByteSeq.cellsFrom (n : Nat) : List Byte → Memory
  | [] => []
  | b :: bs => if b = 0 then ByteSeq.cellsFrom (n + 1) bs else (n, b) :: ByteSeq.cellsFrom (n + 1) bs

/-- The sequence of a list of bytes, in the order the ROM loader supplied them (20_memory.md R62). -/
def ByteSeq.ofBytes (bs : List Byte) : ByteSeq := { length := bs.length, cells := ByteSeq.cellsFrom 0 bs }

/-- The canonical form of an image: both its byte sequences in theirs. -/
def RomImage.wf (r : RomImage) : Bool := r.prg.wf && r.chr.wf

/-- `MemRead(chrRam, off, 1)` (41_mapper_common.md R158): a byte written since the last `INIT`, else the byte of the
`CHR_RAM_INIT` draw in force. -/
def State.chrRamByte (s : State) (off : Nat) : Byte :=
  (Memory.find s.chrRam off).getD (Config.chrRamInit s.chrRamDraw off)

/-- `MemWrite(chrRam, off, 1, v)` (41_mapper_common.md R159). -/
def State.writeChrRam (s : State) (off : Nat) (v : Byte) : State :=
  { s with chrRam := Memory.insert s.chrRam off v }

/-! ### Registers -/

/-- Writes a PRG bank-select register (10_state.md R21). -/
def State.setPrgReg (s : State) (i : Fin 2) (v : Byte) : State := { s with prgReg := s.prgReg.set i v }

/-- Writes a CHR bank-select register (10_state.md R22). -/
def State.setChrReg (s : State) (k : Fin 8) (v : Byte) : State := { s with chrReg := s.chrReg.set k v }

/-- Writes the PPU-banking style (10_state.md R26). -/
def State.setStyle (s : State) (v : BitVec 2) : State := { s with style := v }

/-- Changes the CPU slots of an address range (10_state.md R34). -/
def State.modifyCpu (s : State) (base size : Nat) (g : Slot → Slot) : State :=
  { s with cpuSlots := s.cpuSlots.modify base size g }

/-- Changes the graphics slots of an address range (10_state.md R34). -/
def State.modifyGfx (s : State) (base size : Nat) (g : Slot → Slot) : State :=
  { s with gfxSlots := s.gfxSlots.modify base size g }

/-! ### Results and events -/

/-- Answers the result of the operation (00_scope.md R10). -/
def State.answer (s : State) (r : Result) : State := { s with result := r }

/-- Answers a fresh open-bus byte, `Draw8()` (40_bus_dispatch.md R130, R137). -/
def State.answerOpenBus (s : State) : State :=
  { s with result := .byte (Config.openBus s.draws), draws := s.draws + 1 }

/-- Answers the byte of a device outside ADD, `ExtRead(o, p, a)` (40_bus_dispatch.md R131). -/
def State.answerExt (s : State) (o : Byte) (p a : Word) : State :=
  { s with result := .byte (Config.extRead s.draws o p a), draws := s.draws + 1 }

/-- Puts an event on the output (00_scope.md R9, `emit`). -/
def State.emit (s : State) (e : Event) : State := { s with events := s.events ++ [e] }

/-! ### The interrupt line -/

/-- The output `irq_line`, a level (10_state.md R41, 43_irq_counter.md R205). -/
def State.irqLine (s : State) : Bool := s.irq.pending

/-- Sets the IRQ counter and emits `IrqLine` on an edge of the line, and only there (43_irq_counter.md R202 to R205,
R208). This is ADD's side of taking an interrupt (the line rises, 60_exceptions.md R299) and of returning from one
(the line falls at the acknowledge, R301): ADD saves nothing, changes no mode and has no vector. -/
def State.setIrq (s : State) (q : Irq) : State :=
  { s with
    irq := q
    events := if q.pending = s.irq.pending then s.events else s.events ++ [.irqLine q.pending] }

/-! ### The arrival of an operation -/

/-- The next operation taken off the trace: its image, if it names one, stands on the side input of `INIT`
(30_encoding.md R98, R106), and no result stands yet (log entries 1 to 3). -/
def State.accept (s : State) (l : TraceLine) (rest : List TraceLine) : State :=
  { s with trace := rest, imageIn := l.image.getD s.imageIn, result := .none }

/-- A line put before the operations of the trace (log entry 1). -/
def State.present (s : State) (l : TraceLine) : State := { s with trace := l :: s.trace }

end Sys2Proof.Machine
end

