-- ==== Sys2Proof/Machine/Operands.lean ====
section
/-! DEFINITION. The operand forms of register space (30_encoding.md R100 to R102): the fields of a data byte, and the
address-line swizzles that bring an address to its canonical form (42_swizzle.md). -/

namespace Sys2Proof.Machine

/-! ### Fields of the data byte -/

/-- The low nibble of a register replaced by `v[3:0]` (R101). -/
def lowHalf (old v : Byte) : Byte := (old &&& 0xF0) ||| (v &&& 0x0F)

/-- The high nibble of a register replaced by `v[3:0]` (R101). -/
def highHalf (old v : Byte) : Byte := (old &&& 0x0F) ||| ((v &&& 0x0F) <<< 4)

/-- The mode a two-bit mirroring field selects: `[MIR_V, MIR_H, MIR_1A, MIR_1B]` (R101; 45_mapper_variants.md R254,
R266). -/
def mirrorOfField (f : BitVec 2) : NtMode :=
  match f with
  | 0#2 => .vertical
  | 1#2 => .horizontal
  | 2#2 => .singleA
  | 3#2 => .singleB

/-- The mode bit 4 of V1's register selects (45_mapper_variants.md R247). -/
def mirrorOfBit (b : Bool) : NtMode := if b then .singleB else .singleA

/-- Bit `E` of the IRQ control byte: enable, and the request to reload (R102). -/
def irqCtlEnable (b : Byte) : Bool := b.getLsbD 1

/-- Bit `M` of the IRQ control byte: cycle mode (R102). -/
def irqCtlCycle (b : Byte) : Bool := b.getLsbD 2

/-! ### Swizzles -/

/-- The six wirings (42_swizzle.md R180): the first line feeds selector bit 0, the second selector bit 1. -/
inductive Wiring where
  | a0a1 | a1a0 | a1a2 | a2a3 | a3a2 | a6a7
  deriving DecidableEq, Repr

/-- Wiring `A0/A1`: the identity (R181). -/
def swizzleA0A1 (a : Word) : Word := a

/-- Wiring `A1/A0`: exchanges bits 0 and 1 (R182). -/
def swizzleA1A0 (a : Word) : Word := (a &&& 0xFFFC) ||| ((a &&& 1) <<< 1) ||| ((a >>> 1) &&& 1)

/-- Wiring `A1/A2`: rotates bits 2, 1, 0 (R183). -/
def swizzleA1A2 (a : Word) : Word := (a &&& 0xFFF8) ||| ((a >>> 1) &&& 3) ||| ((a &&& 1) <<< 2)

/-- Wiring `A2/A3`: exchanges bit 0 with 2 and bit 1 with 3 (R184). -/
def swizzleA2A3 (a : Word) : Word := (a &&& 0xFFF0) ||| ((a >>> 2) &&& 3) ||| ((a &&& 3) <<< 2)

/-- Wiring `A3/A2`: exchanges bit 0 with 3 and bit 1 with 2 (R185). -/
def swizzleA3A2 (a : Word) : Word :=
  (a &&& 0xFFF0) ||| ((a >>> 3) &&& 1) ||| ((a >>> 1) &&& 2) ||| ((a &&& 2) <<< 1) ||| ((a &&& 1) <<< 3)

/-- Wiring `A6/A7`: exchanges bit 0 with 6 and bit 1 with 7 (R186). -/
def swizzleA6A7 (a : Word) : Word := (a &&& 0xFF3C) ||| ((a >>> 6) &&& 3) ||| ((a &&& 3) <<< 6)

/-- `SWZ_w` (42_swizzle.md R180): the canonical address of a register-space address. -/
def swizzle : Wiring → Word → Word
  | .a0a1 => swizzleA0A1
  | .a1a0 => swizzleA1A0
  | .a1a2 => swizzleA1A2
  | .a2a3 => swizzleA2A3
  | .a3a2 => swizzleA3A2
  | .a6a7 => swizzleA6A7

end Sys2Proof.Machine
end

