-- ==== Sys2Proof/Machine/Tables.lean ====
section
/-! DEFINITION. The two static tables (10_state.md R39; 44_pcb_and_override.md) with the spec's default contents, the
searches over them, and the columns of the class table (R220). Log entry 8. -/

namespace Sys2Proof.Machine

/-- A row of the PCB Classification Table (R221). -/
structure PcbRow where
  mapperId : Word
  subMapperId : Byte
  pcbClass : PcbClass
  deriving DecidableEq, Repr

/-- `PCB_TABLE`, in search order (R223). -/
def pcbTable : List PcbRow :=
  [⟨0, 0, .fixswap⟩, ⟨2, 0, .fixswap⟩, ⟨7, 0, .one32k⟩,
   ⟨21, 0, .vrc24A1A2⟩, ⟨21, 1, .vrc24A1A2⟩, ⟨21, 2, .vrc24A6A7⟩,
   ⟨22, 0, .vrc24A1A0⟩,
   ⟨23, 0, .vrc24A0A1⟩, ⟨23, 1, .vrc24A0A1⟩, ⟨23, 2, .vrc24A2A3⟩, ⟨23, 3, .vrc24A0A1⟩,
   ⟨24, 0, .vrc6A0A1⟩,
   ⟨25, 0, .vrc24A1A0⟩, ⟨25, 1, .vrc24A1A0⟩, ⟨25, 2, .vrc24A3A2⟩, ⟨25, 3, .vrc24A1A0⟩,
   ⟨26, 0, .vrc6A1A0⟩]

/-- `PCB_DEFAULT` (R222). -/
def pcbDefault : PcbClass := .fixswap

/-- `Classify(m, s)` over a table: the class of the first row with both keys, else the default, and whether a row
matched (R221). -/
def classifyIn (t : List PcbRow) (m : Word) (sub : Byte) : PcbClass × Bool :=
  match t with
  | [] => (pcbDefault, false)
  | r :: rest => if r.mapperId = m ∧ r.subMapperId = sub then (r.pcbClass, true) else classifyIn rest m sub

/-- `Classify(m, s)` (R221). -/
def classify (m : Word) (sub : Byte) : PcbClass × Bool := classifyIn pcbTable m sub

/-- `OVERRIDE_TABLE` (R226). -/
def overrideTable : List OverrideEntry :=
  [{ checksum := 0xB00ABE1C, mir := some .vertical, region := none, mapper := 0xFFFF, prgSize := 0 }]

/-- `LookupOverride(c)` over a table: the first entry with the checksum (R225, R227). -/
def lookupIn (t : List OverrideEntry) (c : Checksum) : Option OverrideEntry :=
  match t with
  | [] => none
  | e :: rest => if e.checksum = c then some e else lookupIn rest c

/-- `LookupOverride(c)` (R225). -/
def lookupOverride (c : Checksum) : Option OverrideEntry := lookupIn overrideTable c

/-- The 4-bit code of a class (R220). -/
def pcbCode : PcbClass → BitVec 4
  | .fixswap => 0 | .one32k => 1
  | .vrc24A0A1 => 2 | .vrc24A1A0 => 3 | .vrc24A1A2 => 4 | .vrc24A2A3 => 5 | .vrc24A3A2 => 6 | .vrc24A6A7 => 7
  | .vrc6A0A1 => 8 | .vrc6A1A0 => 9

/-- `VARIANT(c)` (R220, R224). -/
def variantOf : PcbClass → Variant
  | .fixswap => .v0
  | .one32k => .v1
  | .vrc24A0A1 | .vrc24A1A0 | .vrc24A1A2 | .vrc24A2A3 | .vrc24A3A2 | .vrc24A6A7 => .v2
  | .vrc6A0A1 | .vrc6A1A0 => .v3

/-- `WIRING(c)` (R220, R224). -/
def wiringOf : PcbClass → Wiring
  | .fixswap | .one32k | .vrc24A0A1 | .vrc6A0A1 => .a0a1
  | .vrc24A1A0 | .vrc6A1A0 => .a1a0
  | .vrc24A1A2 => .a1a2
  | .vrc24A2A3 => .a2a3
  | .vrc24A3A2 => .a3a2
  | .vrc24A6A7 => .a6a7

/-- The 3-bit code of the mirroring-mode register (10_state.md R25). -/
def mirrorCode : Mirror → BitVec 3
  | .mode .horizontal => 0
  | .mode .vertical => 1
  | .mode .singleA => 2
  | .mode .singleB => 3
  | .mode .fourScreen => 4
  | .noOverride => 5

/-- The variant in force (10_state.md R27). -/
def State.variant (s : State) : Variant := variantOf s.pcbClass

/-- The wiring in force (10_state.md R27; 42_swizzle.md R189). -/
def State.wiring (s : State) : Wiring := wiringOf s.pcbClass

end Sys2Proof.Machine
end

