-- ==== Sys2Proof/Machine/Variants.lean ====
section
/-! DEFINITION. The variant records (41_mapper_common.md R165) but for their register maps: windows, IRQ counter and
CHR-RAM of the four variants (45_mapper_variants.md). Log entry 15. -/

namespace Sys2Proof.Machine

/-- What a PRG window reads: the fixed bank, or the bank a PRG register selects (R165). -/
inductive WindowKind where
  | fixed
  | swap (i : Fin 2)
  deriving DecidableEq, Repr

/-- A PRG read window on the CPU bus; `size` is also its bank size (R165). -/
structure PrgWindow where
  base : Nat
  size : Nat
  kind : WindowKind
  deriving DecidableEq, Repr

/-- The CHR window that covers a 1 KiB graphics slot: where it starts, its bank size, and the register that selects
its bank, if one does (R165). -/
structure ChrWindow where
  base : Nat
  gran : Nat
  reg : Option (Fin 8)
  deriving DecidableEq, Repr

/-- `V.prgWin` (R241, R246, R251, R261). -/
def prgWin : Variant → List PrgWindow
  | .v0 => [⟨0x8000, 0x4000, .swap 0⟩, ⟨0xC000, 0x4000, .fixed⟩]
  | .v1 => [⟨0x8000, 0x8000, .swap 0⟩]
  | .v2 => [⟨0x8000, 0x2000, .swap 0⟩, ⟨0xA000, 0x2000, .swap 1⟩, ⟨0xC000, 0x4000, .fixed⟩]
  | .v3 => [⟨0x8000, 0x4000, .swap 0⟩, ⟨0xC000, 0x2000, .swap 1⟩, ⟨0xE000, 0x2000, .fixed⟩]

/-- The CHR windows of V3 by style (R267). -/
def chrWinV3 (style : BitVec 2) (k : Fin 8) : ChrWindow :=
  match style with
  | 0#2 => ⟨k.val * 0x400, 0x400, some k⟩
  | 1#2 => ⟨(k.val / 2) * 0x800, 0x800, some ⟨k.val / 2, by omega⟩⟩
  | _ =>
    if k.val < 4 then ⟨k.val * 0x400, 0x400, some k⟩
    else if k.val < 6 then ⟨0x1000, 0x800, some 4⟩
    else ⟨0x1800, 0x800, some 5⟩

/-- `V.chrWin(style, k)` (R243, R248, R257, R267). -/
def chrWin : Variant → BitVec 2 → Fin 8 → ChrWindow
  | .v0, _, _ | .v1, _, _ => ⟨0, 0x2000, none⟩
  | .v2, _, k => ⟨k.val * 0x400, 0x400, some k⟩
  | .v3, style, k => chrWinV3 style k

/-- `V.hasIrq` (R241, R246, R250, R260). -/
def hasIrq : Variant → Bool
  | .v0 | .v1 => false
  | .v2 | .v3 => true

/-- `V.chrRamOk` (R241, R246, R250, R260). -/
def chrRamOk : Variant → Bool
  | .v0 | .v1 => true
  | .v2 | .v3 => false

/-- The size of the fixed window of a list of windows, if it has one. -/
def fixedSizeIn (ws : List PrgWindow) : Option Nat :=
  match ws with
  | [] => none
  | w :: rest => match w.kind with
    | .fixed => some w.size
    | .swap _ => fixedSizeIn rest

/-- The fixed-bank byte offset of a PRG of `S` bytes: `max(S, size) - size`, and 0 in a variant with no fixed window
(10_state.md R28, 41_mapper_common.md R150). -/
def fixedOffsetOf (m : Variant) (S : Nat) : Nat :=
  match fixedSizeIn (prgWin m) with
  | some size => max S size - size
  | none => 0

/-- `useChrRam()` (41_mapper_common.md R160). -/
def State.useChrRam (s : State) : Bool := chrRamOk s.variant && decide (0 < s.rom.chrRamSize)

end Sys2Proof.Machine
end

