-- ==== Sys2Proof/Machine/Mirroring.lean ====
section
/-! DEFINITION. The PPU mirroring-mode selector (46_mirroring_selector.md). -/

namespace Sys2Proof.Machine

/-- `effMirror()` (R280). -/
def State.effMirror (s : State) : NtMode :=
  match s.mirror with
  | .noOverride => s.rom.declMirror
  | .mode m => m

/-- The output `nt_mode` (10_state.md R41, R280). -/
def State.ntMode (s : State) : NtMode := s.effMirror

/-- The nametable page of a mode for address bits 11 and 10 (R281). -/
def ntPageOf (m : NtMode) (a11 a10 : Bool) : BitVec 2 :=
  match m with
  | .horizontal => BitVec.ofBool false ++ BitVec.ofBool a11
  | .vertical => BitVec.ofBool false ++ BitVec.ofBool a10
  | .singleA => 0
  | .singleB => 1
  | .fourScreen => BitVec.ofBool a11 ++ BitVec.ofBool a10

/-- The output `nt_page(a11, a10)` (10_state.md R41, R281). -/
def State.ntPage (s : State) (a11 a10 : Bool) : BitVec 2 := ntPageOf s.effMirror a11 a10

/-- Emits `NtMode(effMirror())` (R282, R284). -/
def State.emitNtMode (s : State) : State := s.emit (.ntMode s.effMirror)

/-- A mirroring register write: stores the mode and emits the effective mode, whether or not it changed (R282). -/
def State.writeMirror (s : State) (m : NtMode) : State := State.emitNtMode { s with mirror := .mode m }

end Sys2Proof.Machine
end

