-- ==== Sys2Proof/Machine/Reads.lean ====
section
/-! DEFINITION. The read handlers (40_bus_dispatch.md R121, R130, R131; 41_mapper_common.md R153 to R158): where the
byte of a read comes from, and then the byte. -/

namespace Sys2Proof.Machine

/-- Where a read's byte comes from. -/
inductive Source where
  /-- Open bus: a floating value (R130, R157). -/
  | openBus
  /-- An offset of PRG ROM. -/
  | prg (off : Nat)
  /-- An offset of CHR ROM. -/
  | chr (off : Nat)
  /-- An offset of CHR-RAM. -/
  | chrRam (off : Nat)
  /-- A device outside ADD (R131). -/
  | ext (o : Byte) (p a : Word)
  deriving DecidableEq, Repr

/-- The bank count of a ROM of `S` bytes with banks of `B` bytes (10_state.md R29). -/
def bankCount (S B : Nat) : Nat := max 1 (S / B)

/-- The offset of a swappable bank's byte: in-window offset `d`, register value `r`, bank size `B`, ROM size `S`
(R154, R155). -/
def swapOffset (d r B S : Nat) : Nat := (d + (r % bankCount S B) * B) % S

/-- The offset of the fixed bank's byte: in-window offset `d`, fixed-bank offset `f`, ROM size `S` (R153). -/
def fixedBankOffset (d f S : Nat) : Nat := f + d % max 1 (S - f)

/-- `R_PRG_FIXED` at an address with a parameter (R153, R157). -/
def State.prgFixedSource (s : State) (p a : Word) : Source :=
  match (prgWin s.variant)[p.toNat]? with
  | none => .openBus
  | some w =>
    match w.kind with
    | .swap _ => .openBus
    | .fixed =>
      if a.toNat < w.base ∨ w.base + w.size ≤ a.toNat ∨ s.rom.prg.length = 0 then .openBus
      else .prg (fixedBankOffset (a.toNat - w.base) s.fixedOffset s.rom.prg.length)

/-- `R_PRG_SWAP` at an address with a parameter (R154, R157). -/
def State.prgSwapSource (s : State) (p a : Word) : Source :=
  match (prgWin s.variant)[p.toNat]? with
  | none => .openBus
  | some w =>
    match w.kind with
    | .fixed => .openBus
    | .swap i =>
      if a.toNat < w.base ∨ w.base + w.size ≤ a.toNat ∨ s.rom.prg.length = 0 then .openBus
      else .prg (swapOffset (a.toNat - w.base) s.prgReg[i].toNat w.size s.rom.prg.length)

/-- The CHR offset of an address in a CHR window (R155). -/
def State.chrOffset (s : State) (w : ChrWindow) (a : Nat) : Nat :=
  match w.reg with
  | none => (a - w.base) % s.rom.chr.length
  | some k => swapOffset (a - w.base) s.chrReg[k].toNat w.gran s.rom.chr.length

/-- `R_CHR` at an address with a parameter (R155, R157). -/
def State.chrSource (s : State) (p a : Word) : Source :=
  if h : p.toNat < 8 then
    if 0x2000 ≤ a.toNat ∨ a.toNat / 1024 ≠ p.toNat ∨ s.rom.chr.length = 0 then .openBus
    else .chr (s.chrOffset (chrWin s.variant s.style ⟨p.toNat, h⟩) a.toNat)
  else .openBus

/-- Where the byte of `ReadKind(k, o, p, a)` comes from (R121). -/
def State.readSource (s : State) (k : ReadKind) (o : Byte) (p a : Word) : Source :=
  match k with
  | .rOpen => .openBus
  | .rPrgFixed => s.prgFixedSource p a
  | .rPrgSwap => s.prgSwapSource p a
  | .rChr => s.chrSource p a
  | .rChrRam => .chrRam (a.toNat % Config.chrRamBytes)
  | .rExt => .ext o p a

/-- The answer of a ROM read: its byte. A read beyond the ROM's length, which the handlers' offsets never are in a
reachable state (20_memory.md R77), answers the open-bus value (log entry 14). -/
def State.answerRom (s : State) (b : Option Byte) : State :=
  match b with
  | some b => s.answer (.byte b)
  | none => s.answerOpenBus

/-- The answer of a read from its source. -/
def State.answerFrom (s : State) (src : Source) : State :=
  match src with
  | .openBus => s.answerOpenBus
  | .prg off => s.answerRom (s.rom.prg.byteAt off)
  | .chr off => s.answerRom (s.rom.chr.byteAt off)
  | .chrRam off => s.answer (.byte (s.chrRamByte off))
  | .ext o p a => s.answerExt o p a

/-- A read through a slot (40_bus_dispatch.md R120): `ReadKind(rk, ro, rp, a)` answered. -/
def State.readSlot (s : State) (x : Slot) (a : Word) : State :=
  s.answerFrom (s.readSource x.rk x.ro x.rp a)

end Sys2Proof.Machine
end

