-- ==== Sys2Proof/Machine/RegistersV0V1.lean ====
section
/-! DEFINITION. The register writes of V0 and V1 (45_mapper_variants.md R242, R247). A write validates nothing (41_mapper_common.md
R156): bits outside the mask are dropped. -/

namespace Sys2Proof.Machine

/-- `V0.PRGSEL` (R242): data v[4:0] -> prgReg[0]. -/
def execV0Prgsel (_ca : Word) (v : Byte) (s : State) : Host.Outcome State Fault Refusal :=
  .next (s.setPrgReg 0 (v &&& 0x1F))

/-- `V1.PRGSEL_MIRROR` (R247): data v[2:0] -> prgReg[0], v[4] -> mirror. -/
def execV1PrgselMirror (_ca : Word) (v : Byte) (s : State) : Host.Outcome State Fault Refusal :=
  .next ((s.setPrgReg 0 (v &&& 0x07)).writeMirror (mirrorOfBit (v.getLsbD 4)))

end Sys2Proof.Machine
end

