-- ==== Sys2Proof/Machine/Flags.lean ====
section
/-! DEFINITION. The IRQ countdown counter (43_irq_counter.md): the four strobes, and with them every computation of
ADD's three flags `enabled`, `cycleMode`, `pending` (10_state.md R24). -/

namespace Sys2Proof.Machine

/-- `IRQ.SetLatch(b)` (R201): the live counter, the divider and the line do not change. -/
def Irq.setLatch (q : Irq) (b : Byte) : Irq := { q with latch := b }

/-- `IRQ.SetControl` with the two bits of the control byte (R202): enable also requests the reload, which clears the
divider and the pending line. -/
def Irq.setControl (q : Irq) (enable cycle : Bool) : Irq :=
  if enable then
    { q with enabled := true, cycleMode := cycle, counter := q.latch, divPhase := 0, pending := false }
  else { q with enabled := false, cycleMode := cycle }

/-- `IRQ.Ack()` (R204): the line alone. -/
def Irq.ack (q : Irq) : Irq := { q with pending := false }

/-- One count (R203): from 0 the counter reloads and the line is asserted, else it goes down by one. -/
def Irq.count (q : Irq) : Irq :=
  if q.counter = 0 then { q with counter := q.latch, pending := true } else { q with counter := q.counter - 1 }

/-- `IRQ.Tick()` with `N` CPU cycles per count in scanline mode (R203). -/
def Irq.tick (N : Nat) (q : Irq) : Irq :=
  if !q.enabled then q
  else if q.cycleMode then q.count
  else if q.divPhase = N - 1 then Irq.count { q with divPhase := 0 }
  else { q with divPhase := q.divPhase + 1 }

end Sys2Proof.Machine
end

