-- ==== Sys2Proof/Machine/RegistersV2.lean ====
section
/-! DEFINITION. The register writes of V2 (45_mapper_variants.md R253 to R259). -/

namespace Sys2Proof.Machine

/-- `V2.PRG0` (R253): data v[4:0] -> prgReg[0]. -/
def execV2Prg0 (_ca : Word) (v : Byte) (s : State) : Host.Outcome State Fault Refusal :=
  .next (s.setPrgReg 0 (v &&& 0x1F))

/-- `V2.MIRROR` (R254): data v[1:0] -> mirror. -/
def execV2Mirror (_ca : Word) (v : Byte) (s : State) : Host.Outcome State Fault Refusal :=
  .next (s.writeMirror (mirrorOfField (v.extractLsb' 0 2)))

/-- `V2.SWAPMODE_NOP` (R259): masked no-op. -/
def execV2SwapmodeNop (_ca : Word) (_v : Byte) (s : State) : Host.Outcome State Fault Refusal :=
  .next s

/-- `V2.PRG1` (R255): data v[4:0] -> prgReg[1]. -/
def execV2Prg1 (_ca : Word) (v : Byte) (s : State) : Host.Outcome State Fault Refusal :=
  .next (s.setPrgReg 1 (v &&& 0x1F))

/-- `V2.CHR0_LO` (R256): data v[3:0] -> low nibble of chrReg[0]. -/
def execV2Chr0Lo (_ca : Word) (v : Byte) (s : State) : Host.Outcome State Fault Refusal :=
  .next (s.setChrReg 0 (lowHalf s.chrReg[0] v))

/-- `V2.CHR0_HI` (R256): data v[3:0] -> high nibble of chrReg[0]. -/
def execV2Chr0Hi (_ca : Word) (v : Byte) (s : State) : Host.Outcome State Fault Refusal :=
  .next (s.setChrReg 0 (highHalf s.chrReg[0] v))

/-- `V2.CHR1_LO` (R256): data v[3:0] -> low nibble of chrReg[1]. -/
def execV2Chr1Lo (_ca : Word) (v : Byte) (s : State) : Host.Outcome State Fault Refusal :=
  .next (s.setChrReg 1 (lowHalf s.chrReg[1] v))

/-- `V2.CHR1_HI` (R256): data v[3:0] -> high nibble of chrReg[1]. -/
def execV2Chr1Hi (_ca : Word) (v : Byte) (s : State) : Host.Outcome State Fault Refusal :=
  .next (s.setChrReg 1 (highHalf s.chrReg[1] v))

/-- `V2.CHR2_LO` (R256): data v[3:0] -> low nibble of chrReg[2]. -/
def execV2Chr2Lo (_ca : Word) (v : Byte) (s : State) : Host.Outcome State Fault Refusal :=
  .next (s.setChrReg 2 (lowHalf s.chrReg[2] v))

/-- `V2.CHR2_HI` (R256): data v[3:0] -> high nibble of chrReg[2]. -/
def execV2Chr2Hi (_ca : Word) (v : Byte) (s : State) : Host.Outcome State Fault Refusal :=
  .next (s.setChrReg 2 (highHalf s.chrReg[2] v))

/-- `V2.CHR3_LO` (R256): data v[3:0] -> low nibble of chrReg[3]. -/
def execV2Chr3Lo (_ca : Word) (v : Byte) (s : State) : Host.Outcome State Fault Refusal :=
  .next (s.setChrReg 3 (lowHalf s.chrReg[3] v))

/-- `V2.CHR3_HI` (R256): data v[3:0] -> high nibble of chrReg[3]. -/
def execV2Chr3Hi (_ca : Word) (v : Byte) (s : State) : Host.Outcome State Fault Refusal :=
  .next (s.setChrReg 3 (highHalf s.chrReg[3] v))

/-- `V2.CHR4_LO` (R256): data v[3:0] -> low nibble of chrReg[4]. -/
def execV2Chr4Lo (_ca : Word) (v : Byte) (s : State) : Host.Outcome State Fault Refusal :=
  .next (s.setChrReg 4 (lowHalf s.chrReg[4] v))

/-- `V2.CHR4_HI` (R256): data v[3:0] -> high nibble of chrReg[4]. -/
def execV2Chr4Hi (_ca : Word) (v : Byte) (s : State) : Host.Outcome State Fault Refusal :=
  .next (s.setChrReg 4 (highHalf s.chrReg[4] v))

/-- `V2.CHR5_LO` (R256): data v[3:0] -> low nibble of chrReg[5]. -/
def execV2Chr5Lo (_ca : Word) (v : Byte) (s : State) : Host.Outcome State Fault Refusal :=
  .next (s.setChrReg 5 (lowHalf s.chrReg[5] v))

/-- `V2.CHR5_HI` (R256): data v[3:0] -> high nibble of chrReg[5]. -/
def execV2Chr5Hi (_ca : Word) (v : Byte) (s : State) : Host.Outcome State Fault Refusal :=
  .next (s.setChrReg 5 (highHalf s.chrReg[5] v))

/-- `V2.CHR6_LO` (R256): data v[3:0] -> low nibble of chrReg[6]. -/
def execV2Chr6Lo (_ca : Word) (v : Byte) (s : State) : Host.Outcome State Fault Refusal :=
  .next (s.setChrReg 6 (lowHalf s.chrReg[6] v))

/-- `V2.CHR6_HI` (R256): data v[3:0] -> high nibble of chrReg[6]. -/
def execV2Chr6Hi (_ca : Word) (v : Byte) (s : State) : Host.Outcome State Fault Refusal :=
  .next (s.setChrReg 6 (highHalf s.chrReg[6] v))

/-- `V2.CHR7_LO` (R256): data v[3:0] -> low nibble of chrReg[7]. -/
def execV2Chr7Lo (_ca : Word) (v : Byte) (s : State) : Host.Outcome State Fault Refusal :=
  .next (s.setChrReg 7 (lowHalf s.chrReg[7] v))

/-- `V2.CHR7_HI` (R256): data v[3:0] -> high nibble of chrReg[7]. -/
def execV2Chr7Hi (_ca : Word) (v : Byte) (s : State) : Host.Outcome State Fault Refusal :=
  .next (s.setChrReg 7 (highHalf s.chrReg[7] v))

/-- `V2.IRQ_LATCH_LO` (R258): data v[3:0] -> irq.latch[3:0]. -/
def execV2IrqLatchLo (_ca : Word) (v : Byte) (s : State) : Host.Outcome State Fault Refusal :=
  .next (s.setIrq (s.irq.setLatch (lowHalf s.irq.latch v)))

/-- `V2.IRQ_LATCH_HI` (R258): data v[3:0] -> irq.latch[7:4]. -/
def execV2IrqLatchHi (_ca : Word) (v : Byte) (s : State) : Host.Outcome State Fault Refusal :=
  .next (s.setIrq (s.irq.setLatch (highHalf s.irq.latch v)))

/-- `V2.IRQ_CONTROL` (R258): IRQ.SetControl(v), rule R202. -/
def execV2IrqControl (_ca : Word) (v : Byte) (s : State) : Host.Outcome State Fault Refusal :=
  .next (s.setIrq (s.irq.setControl (irqCtlEnable v) (irqCtlCycle v)))

/-- `V2.IRQ_ACK` (R258): IRQ.Ack, rule R204. -/
def execV2IrqAck (_ca : Word) (_v : Byte) (s : State) : Host.Outcome State Fault Refusal :=
  .next (s.setIrq s.irq.ack)

end Sys2Proof.Machine
end

