-- ==== Sys2Proof/Machine/RegistersV3.lean ====
section
/-! DEFINITION. The register writes of V3 (45_mapper_variants.md R263 to R269). -/

namespace Sys2Proof.Machine

/-- `V3.PRG0_16K` (R263): data v[3:0] -> prgReg[0]. -/
def execV3Prg0 (_ca : Word) (v : Byte) (s : State) : Host.Outcome State Fault Refusal :=
  .next (s.setPrgReg 0 (v &&& 0x0F))

/-- `V3.SOUND_9_NOP` (R268): nop (audio out of scope). -/
def execV3Sound9Nop (_ca : Word) (_v : Byte) (s : State) : Host.Outcome State Fault Refusal :=
  .next s

/-- `V3.SOUND_A_NOP` (R268): nop (audio out of scope). -/
def execV3SoundANop (_ca : Word) (_v : Byte) (s : State) : Host.Outcome State Fault Refusal :=
  .next s

/-- `V3.SOUND_B0_NOP` (R268): nop (audio out of scope). -/
def execV3SoundB0Nop (_ca : Word) (_v : Byte) (s : State) : Host.Outcome State Fault Refusal :=
  .next s

/-- `V3.SOUND_B1_NOP` (R268): nop (audio out of scope). -/
def execV3SoundB1Nop (_ca : Word) (_v : Byte) (s : State) : Host.Outcome State Fault Refusal :=
  .next s

/-- `V3.SOUND_B2_NOP` (R268): nop (audio out of scope). -/
def execV3SoundB2Nop (_ca : Word) (_v : Byte) (s : State) : Host.Outcome State Fault Refusal :=
  .next s

/-- `V3.BANKING_CONTROL` (R266): data v[1:0] -> style, v[3:2] -> mirror. -/
def execV3BankingControl (_ca : Word) (v : Byte) (s : State) : Host.Outcome State Fault Refusal :=
  .next ((s.setStyle (v.extractLsb' 0 2)).writeMirror (mirrorOfField (v.extractLsb' 2 2)))

/-- `V3.PRG1_8K` (R264): data v[4:0] -> prgReg[1]. -/
def execV3Prg1 (_ca : Word) (v : Byte) (s : State) : Host.Outcome State Fault Refusal :=
  .next (s.setPrgReg 1 (v &&& 0x1F))

/-- `V3.CHR0` (R265): data v[7:0] -> chrReg[0]. -/
def execV3Chr0 (_ca : Word) (v : Byte) (s : State) : Host.Outcome State Fault Refusal :=
  .next (s.setChrReg 0 v)

/-- `V3.CHR1` (R265): data v[7:0] -> chrReg[1]. -/
def execV3Chr1 (_ca : Word) (v : Byte) (s : State) : Host.Outcome State Fault Refusal :=
  .next (s.setChrReg 1 v)

/-- `V3.CHR2` (R265): data v[7:0] -> chrReg[2]. -/
def execV3Chr2 (_ca : Word) (v : Byte) (s : State) : Host.Outcome State Fault Refusal :=
  .next (s.setChrReg 2 v)

/-- `V3.CHR3` (R265): data v[7:0] -> chrReg[3]. -/
def execV3Chr3 (_ca : Word) (v : Byte) (s : State) : Host.Outcome State Fault Refusal :=
  .next (s.setChrReg 3 v)

/-- `V3.CHR4` (R265): data v[7:0] -> chrReg[4]. -/
def execV3Chr4 (_ca : Word) (v : Byte) (s : State) : Host.Outcome State Fault Refusal :=
  .next (s.setChrReg 4 v)

/-- `V3.CHR5` (R265): data v[7:0] -> chrReg[5]. -/
def execV3Chr5 (_ca : Word) (v : Byte) (s : State) : Host.Outcome State Fault Refusal :=
  .next (s.setChrReg 5 v)

/-- `V3.CHR6` (R265): data v[7:0] -> chrReg[6]. -/
def execV3Chr6 (_ca : Word) (v : Byte) (s : State) : Host.Outcome State Fault Refusal :=
  .next (s.setChrReg 6 v)

/-- `V3.CHR7` (R265): data v[7:0] -> chrReg[7]. -/
def execV3Chr7 (_ca : Word) (v : Byte) (s : State) : Host.Outcome State Fault Refusal :=
  .next (s.setChrReg 7 v)

/-- `V3.IRQ_LATCH` (R269): data v[7:0] -> irq.latch. -/
def execV3IrqLatch (_ca : Word) (v : Byte) (s : State) : Host.Outcome State Fault Refusal :=
  .next (s.setIrq (s.irq.setLatch v))

/-- `V3.IRQ_CONTROL` (R269): IRQ.SetControl(v), rule R202. -/
def execV3IrqControl (_ca : Word) (v : Byte) (s : State) : Host.Outcome State Fault Refusal :=
  .next (s.setIrq (s.irq.setControl (irqCtlEnable v) (irqCtlCycle v)))

/-- `V3.IRQ_ACK` (R269): IRQ.Ack, rule R204. -/
def execV3IrqAck (_ca : Word) (_v : Byte) (s : State) : Host.Outcome State Fault Refusal :=
  .next (s.setIrq s.irq.ack)

/-- `V3.UNMATCHED_F3_NOP` (R269): nop. -/
def execV3UnmatchedF3Nop (_ca : Word) (_v : Byte) (s : State) : Host.Outcome State Fault Refusal :=
  .next s

end Sys2Proof.Machine
end

