-- ==== Sys2Proof/Machine/RegisterMap.lean ====
section
/-! DEFINITION. `V.regWrite(ca, v)`, the register maps of the four variants (41_mapper_common.md R165): the register
a canonical address reaches, by group and selector (30_encoding.md R100). A canonical address no register matches is
a no-op (R103). -/

namespace Sys2Proof.Machine

/-- The register map of V2 (45_mapper_variants.md R253 to R259). -/
def regWriteV2 (ca : Word) (v : Byte) (s : State) : Host.Outcome State Fault Refusal :=
  match regGroup ca, regSel ca with
  | 0x8#4, _ => execV2Prg0 ca v s
  | 0x9#4, 0#2 | 0x9#4, 1#2 => execV2Mirror ca v s
  | 0x9#4, 2#2 | 0x9#4, 3#2 => execV2SwapmodeNop ca v s
  | 0xA#4, _ => execV2Prg1 ca v s
  | 0xB#4, 0#2 => execV2Chr0Lo ca v s
  | 0xB#4, 1#2 => execV2Chr0Hi ca v s
  | 0xB#4, 2#2 => execV2Chr1Lo ca v s
  | 0xB#4, 3#2 => execV2Chr1Hi ca v s
  | 0xC#4, 0#2 => execV2Chr2Lo ca v s
  | 0xC#4, 1#2 => execV2Chr2Hi ca v s
  | 0xC#4, 2#2 => execV2Chr3Lo ca v s
  | 0xC#4, 3#2 => execV2Chr3Hi ca v s
  | 0xD#4, 0#2 => execV2Chr4Lo ca v s
  | 0xD#4, 1#2 => execV2Chr4Hi ca v s
  | 0xD#4, 2#2 => execV2Chr5Lo ca v s
  | 0xD#4, 3#2 => execV2Chr5Hi ca v s
  | 0xE#4, 0#2 => execV2Chr6Lo ca v s
  | 0xE#4, 1#2 => execV2Chr6Hi ca v s
  | 0xE#4, 2#2 => execV2Chr7Lo ca v s
  | 0xE#4, 3#2 => execV2Chr7Hi ca v s
  | 0xF#4, 0#2 => execV2IrqLatchLo ca v s
  | 0xF#4, 1#2 => execV2IrqLatchHi ca v s
  | 0xF#4, 2#2 => execV2IrqControl ca v s
  | 0xF#4, 3#2 => execV2IrqAck ca v s
  | _, _ => .next s

/-- The register map of V3 (45_mapper_variants.md R263 to R269). -/
def regWriteV3 (ca : Word) (v : Byte) (s : State) : Host.Outcome State Fault Refusal :=
  match regGroup ca, regSel ca with
  | 0x8#4, _ => execV3Prg0 ca v s
  | 0x9#4, _ => execV3Sound9Nop ca v s
  | 0xA#4, _ => execV3SoundANop ca v s
  | 0xB#4, 0#2 => execV3SoundB0Nop ca v s
  | 0xB#4, 1#2 => execV3SoundB1Nop ca v s
  | 0xB#4, 2#2 => execV3SoundB2Nop ca v s
  | 0xB#4, 3#2 => execV3BankingControl ca v s
  | 0xC#4, _ => execV3Prg1 ca v s
  | 0xD#4, 0#2 => execV3Chr0 ca v s
  | 0xD#4, 1#2 => execV3Chr1 ca v s
  | 0xD#4, 2#2 => execV3Chr2 ca v s
  | 0xD#4, 3#2 => execV3Chr3 ca v s
  | 0xE#4, 0#2 => execV3Chr4 ca v s
  | 0xE#4, 1#2 => execV3Chr5 ca v s
  | 0xE#4, 2#2 => execV3Chr6 ca v s
  | 0xE#4, 3#2 => execV3Chr7 ca v s
  | 0xF#4, 0#2 => execV3IrqLatch ca v s
  | 0xF#4, 1#2 => execV3IrqControl ca v s
  | 0xF#4, 2#2 => execV3IrqAck ca v s
  | 0xF#4, 3#2 => execV3UnmatchedF3Nop ca v s
  | _, _ => .next s

/-- `V.regWrite(ca, v)` (R165); V0 and V1 decode bit 15 alone (45_mapper_variants.md R242, R247). -/
def regWrite (m : Variant) (ca : Word) (v : Byte) (s : State) : Host.Outcome State Fault Refusal :=
  match m with
  | .v0 => if ca.getLsbD 15 then execV0Prgsel ca v s else .next s
  | .v1 => if ca.getLsbD 15 then execV1PrgselMirror ca v s else .next s
  | .v2 => regWriteV2 ca v s
  | .v3 => regWriteV3 ca v s

end Sys2Proof.Machine
end

