-- ==== Sys2Proof/Machine/Writes.lean ====
section
/-! DEFINITION. The write handlers (40_bus_dispatch.md R121, R132, R133; 41_mapper_common.md R156, R159). -/

namespace Sys2Proof.Machine

/-- `W_REG` (R156): the swizzle of the wiring in force, then the register map of the variant in force. -/
def State.writeRegister (s : State) (a : Word) (v : Byte) : Host.Outcome State Fault Refusal :=
  regWrite s.variant (swizzle s.wiring a) v s

/-- A write through a slot (R120): `WriteKind(wk, wo, wp, a, v)`. -/
def State.writeSlot (s : State) (x : Slot) (a : Word) (v : Byte) : Host.Outcome State Fault Refusal :=
  match x.wk with
  | .wIgnore => .next s
  | .wReg => s.writeRegister a v
  | .wChrRam => .next (s.writeChrRam (a.toNat % Config.chrRamBytes) v)
  | .wExt => .next (s.emit (.extWrite x.wo x.wp a v))

end Sys2Proof.Machine
end

