-- ==== Sys2Proof/Machine/Bus.lean ====
section
/-! DEFINITION. The four bus operations (40_bus_dispatch.md R122 to R125): the slot of the address, then its
handler. -/

namespace Sys2Proof.Machine

/-- `RD a` (R122). -/
def execRd (a : Word) (s : State) : Host.Outcome State Fault Refusal :=
  .next (s.readSlot (s.cpuSlots.get a.toNat) a)

/-- `WR a, v` (R123). -/
def execWr (a : Word) (v : Byte) (s : State) : Host.Outcome State Fault Refusal :=
  s.writeSlot (s.cpuSlots.get a.toNat) a v

/-- `GRD a` (R124). -/
def execGrd (a : GfxAddr) (s : State) : Host.Outcome State Fault Refusal :=
  .next (s.readSlot (s.gfxSlots.get a.toNat) (gfxWord a))

/-- `GWR a, v` (R125). -/
def execGwr (a : GfxAddr) (v : Byte) (s : State) : Host.Outcome State Fault Refusal :=
  s.writeSlot (s.gfxSlots.get a.toNat) (gfxWord a) v

end Sys2Proof.Machine
end

