-- ==== Sys2Proof/Machine/Loading.lean ====
section
/-! DEFINITION. Load-time configuration (41_mapper_common.md R150, R151): `INIT` and `APPLY`. -/

namespace Sys2Proof.Machine

/-- The owner reference of the Mapper, `OWNER_MAPPER` (10_state.md R33). -/
def ownerMapper : Byte := 1

/-! ### INIT -/

/-- An image with the fields of an override entry that are not none put in place of its declared ones (R150; 44
R228). -/
def overrideImage (r : RomImage) (e : OverrideEntry) : RomImage :=
  { r with
    declMirror := e.mir.getD r.declMirror
    region := e.region.getD r.region
    mapperId := if e.mapper = 0xFFFF then r.mapperId else e.mapper }

/-- The image after the override database, and the PRG-size override (R150). -/
def overridden (r : RomImage) : RomImage × Nat :=
  match lookupOverride r.crc with
  | some e => (overrideImage r e, e.prgSize)
  | none => (r, 0)

/-- `INIT` of an image that the override database has been applied to (R150): the image stored, the class found, the
register file and the IRQ counter back to zero, `mirror` to no override, the fixed-bank offset computed, CHR-RAM
drawn anew. The events are `UnknownMapper` when the class was not found, then `IrqLine(0)` when the line was high. -/
def State.load (s : State) (r : RomImage) (prgSize : Nat) : State :=
  let found := classify r.mapperId r.subMapperId
  let s := if found.2 then s else s.emit (.unknownMapper r.mapperId r.subMapperId)
  let s := { s with
    rom := r
    prgSizeOverride := prgSize
    pcbClass := found.1
    prgReg := Vector.replicate 2 0
    chrReg := Vector.replicate 8 0
    style := 0
    mirror := .noOverride
    fixedOffset := fixedOffsetOf (variantOf found.1) r.prg.length
    chrRam := []
    chrRamDraw := s.chrRamDraw + 1 }
  s.setIrq .reset

/-- `INIT image` (R150), the image being the one on the side input (30_encoding.md R98). -/
def execInit (s : State) : Host.Outcome State Fault Refusal :=
  .next (s.load (overridden s.imageIn).1 (overridden s.imageIn).2)

/-! ### APPLY -/

/-- Step (a) for a window: the fixed-bank read route (R151). `i` is the window's index. -/
def installFixed (w : PrgWindow) (i : Nat) (t : SlotTable) : SlotTable :=
  match w.kind with
  | .fixed => t.modify w.base w.size (Slot.setRead .rPrgFixed ownerMapper (BitVec.ofNat 16 i))
  | .swap _ => t

/-- Step (b) for a window: the swappable-bank read route (R151). -/
def installSwap (w : PrgWindow) (i : Nat) (t : SlotTable) : SlotTable :=
  match w.kind with
  | .fixed => t
  | .swap _ => t.modify w.base w.size (Slot.setRead .rPrgSwap ownerMapper (BitVec.ofNat 16 i))

/-- One installation step over the windows of a list in order, the first of them having index `i`. -/
def installAll (f : PrgWindow → Nat → SlotTable → SlotTable) (ws : List PrgWindow) (i : Nat) (t : SlotTable) :
    SlotTable :=
  match ws with
  | [] => t
  | w :: rest => installAll f rest (i + 1) (f w i t)

/-- Step (c): register space, `0x8000` to `0xFFFF` (R151). -/
def installRegisters (t : SlotTable) : SlotTable := t.modify 0x8000 0x8000 (Slot.setWrite .wReg ownerMapper 0)

/-- The CPU table `APPLY` installs: step (0), every slot the default slot; then (a), (b), (c) (R151). -/
def cpuTableOf (m : Variant) : SlotTable :=
  installRegisters (installAll installSwap (prgWin m) 0 (installAll installFixed (prgWin m) 0 []))

/-- Step (d) with CHR ROM: the `R_CHR` route of the 1 KiB slots from number `k` on, `n` of them (R151). -/
def installChr (n k : Nat) (t : SlotTable) : SlotTable :=
  match n with
  | 0 => t
  | n + 1 => installChr n (k + 1) (t.modify (k * 1024) 1024 (Slot.setRead .rChr ownerMapper (BitVec.ofNat 16 k)))

/-- The graphics table `APPLY` installs: step (0), then (d), the CHR-RAM routes or the CHR-ROM routes (R151). -/
def gfxTableOf (useRam : Bool) : SlotTable :=
  if useRam then
    SlotTable.modify [] 0 Config.gfxSlotCount fun x =>
      (x.setRead .rChrRam ownerMapper 0).setWrite .wChrRam ownerMapper 0
  else installChr 8 0 []

/-- `APPLY` (R151): both tables, and step (e), the event `NtMode(effMirror())` (46_mirroring_selector.md R284). -/
def execApply (s : State) : Host.Outcome State Fault Refusal :=
  .next (State.emitNtMode { s with cpuSlots := cpuTableOf s.variant, gfxSlots := gfxTableOf s.useChrRam })

end Sys2Proof.Machine
end

