-- ==== Sys2Proof/Machine/Queries.lean ====
section
/-! DEFINITION. The two pure queries over the static tables (44_pcb_and_override.md R221, R225). -/

namespace Sys2Proof.Machine

/-- `CLASSIFY m, s` (R221). -/
def execClassify (m : Word) (sub : Byte) (s : State) : Host.Outcome State Fault Refusal :=
  .next (s.answer (.pcbClass (classify m sub).1))

/-- `LOOKUP c` (R225). -/
def execLookup (c : Checksum) (s : State) : Host.Outcome State Fault Refusal :=
  .next (s.answer (.entry (lookupOverride c)))

end Sys2Proof.Machine
end

