-- ==== Sys2Proof/Machine/Slots.lean ====
section
/-! DEFINITION. Slot programming (40_bus_dispatch.md R126 to R129): one half of exactly one slot. -/

namespace Sys2Proof.Machine

/-- `SETRF a, k, o, p` (R126). -/
def execSetrf (a : Word) (k : ReadKind) (o : Byte) (p : Word) (s : State) : Host.Outcome State Fault Refusal :=
  .next (s.modifyCpu a.toNat 1 (Slot.setRead k o p))

/-- `SETWF a, k, o, p` (R127). -/
def execSetwf (a : Word) (k : WriteKind) (o : Byte) (p : Word) (s : State) : Host.Outcome State Fault Refusal :=
  .next (s.modifyCpu a.toNat 1 (Slot.setWrite k o p))

/-- `GSETRF a, k, o, p` (R128). -/
def execGsetrf (a : GfxAddr) (k : ReadKind) (o : Byte) (p : Word) (s : State) : Host.Outcome State Fault Refusal :=
  .next (s.modifyGfx a.toNat 1 (Slot.setRead k o p))

/-- `GSETWF a, k, o, p` (R129). -/
def execGsetwf (a : GfxAddr) (k : WriteKind) (o : Byte) (p : Word) (s : State) : Host.Outcome State Fault Refusal :=
  .next (s.modifyGfx a.toNat 1 (Slot.setWrite k o p))

end Sys2Proof.Machine
end

