-- ==== Sys2Proof/Machine/Timer.lean ====
section
/-! DEFINITION. One CPU cycle (41_mapper_common.md R152). -/

namespace Sys2Proof.Machine

/-- `TICK` (R152): the IRQ counter of a variant that has one, else nothing. -/
def execTick (s : State) : Host.Outcome State Fault Refusal :=
  if hasIrq s.variant then .next (s.setIrq (s.irq.tick Config.irqDivN)) else .next s

end Sys2Proof.Machine
end

