-- ==== Sys2Proof/Machine/Dispatch.lean ====
section
/-! DEFINITION. The dispatch: one arm per constructor of Instr, each a direct call of that instruction's meaning. -/

namespace Sys2Proof.Machine

def exec (i : Instr) (s : State) : Host.Outcome State Fault Refusal :=
  match i with
  -- CMD (30_encoding.md R92)
  | .rd a => Sys2Proof.Machine.execRd a s
  | .wr a v => Sys2Proof.Machine.execWr a v s
  | .grd a => Sys2Proof.Machine.execGrd a s
  | .gwr a v => Sys2Proof.Machine.execGwr a v s
  | .setrf a k o p => Sys2Proof.Machine.execSetrf a k o p s
  | .setwf a k o p => Sys2Proof.Machine.execSetwf a k o p s
  | .gsetrf a k o p => Sys2Proof.Machine.execGsetrf a k o p s
  | .gsetwf a k o p => Sys2Proof.Machine.execGsetwf a k o p s
  | .init => Sys2Proof.Machine.execInit s
  | .apply => Sys2Proof.Machine.execApply s
  | .tick => Sys2Proof.Machine.execTick s
  | .classify m sub => Sys2Proof.Machine.execClassify m sub s
  | .lookup c => Sys2Proof.Machine.execLookup c s
  -- REGW.V0
  | .v0Prgsel ca v => Sys2Proof.Machine.execV0Prgsel ca v s
  -- REGW.V1
  | .v1PrgselMirror ca v => Sys2Proof.Machine.execV1PrgselMirror ca v s
  -- REGW.V2
  | .v2Prg0 ca v => Sys2Proof.Machine.execV2Prg0 ca v s
  | .v2Mirror ca v => Sys2Proof.Machine.execV2Mirror ca v s
  | .v2SwapmodeNop ca v => Sys2Proof.Machine.execV2SwapmodeNop ca v s
  | .v2Prg1 ca v => Sys2Proof.Machine.execV2Prg1 ca v s
  | .v2Chr0Lo ca v => Sys2Proof.Machine.execV2Chr0Lo ca v s
  | .v2Chr0Hi ca v => Sys2Proof.Machine.execV2Chr0Hi ca v s
  | .v2Chr1Lo ca v => Sys2Proof.Machine.execV2Chr1Lo ca v s
  | .v2Chr1Hi ca v => Sys2Proof.Machine.execV2Chr1Hi ca v s
  | .v2Chr2Lo ca v => Sys2Proof.Machine.execV2Chr2Lo ca v s
  | .v2Chr2Hi ca v => Sys2Proof.Machine.execV2Chr2Hi ca v s
  | .v2Chr3Lo ca v => Sys2Proof.Machine.execV2Chr3Lo ca v s
  | .v2Chr3Hi ca v => Sys2Proof.Machine.execV2Chr3Hi ca v s
  | .v2Chr4Lo ca v => Sys2Proof.Machine.execV2Chr4Lo ca v s
  | .v2Chr4Hi ca v => Sys2Proof.Machine.execV2Chr4Hi ca v s
  | .v2Chr5Lo ca v => Sys2Proof.Machine.execV2Chr5Lo ca v s
  | .v2Chr5Hi ca v => Sys2Proof.Machine.execV2Chr5Hi ca v s
  | .v2Chr6Lo ca v => Sys2Proof.Machine.execV2Chr6Lo ca v s
  | .v2Chr6Hi ca v => Sys2Proof.Machine.execV2Chr6Hi ca v s
  | .v2Chr7Lo ca v => Sys2Proof.Machine.execV2Chr7Lo ca v s
  | .v2Chr7Hi ca v => Sys2Proof.Machine.execV2Chr7Hi ca v s
  | .v2IrqLatchLo ca v => Sys2Proof.Machine.execV2IrqLatchLo ca v s
  | .v2IrqLatchHi ca v => Sys2Proof.Machine.execV2IrqLatchHi ca v s
  | .v2IrqControl ca v => Sys2Proof.Machine.execV2IrqControl ca v s
  | .v2IrqAck ca v => Sys2Proof.Machine.execV2IrqAck ca v s
  -- REGW.V3
  | .v3Prg0 ca v => Sys2Proof.Machine.execV3Prg0 ca v s
  | .v3Sound9Nop ca v => Sys2Proof.Machine.execV3Sound9Nop ca v s
  | .v3SoundANop ca v => Sys2Proof.Machine.execV3SoundANop ca v s
  | .v3SoundB0Nop ca v => Sys2Proof.Machine.execV3SoundB0Nop ca v s
  | .v3SoundB1Nop ca v => Sys2Proof.Machine.execV3SoundB1Nop ca v s
  | .v3SoundB2Nop ca v => Sys2Proof.Machine.execV3SoundB2Nop ca v s
  | .v3BankingControl ca v => Sys2Proof.Machine.execV3BankingControl ca v s
  | .v3Prg1 ca v => Sys2Proof.Machine.execV3Prg1 ca v s
  | .v3Chr0 ca v => Sys2Proof.Machine.execV3Chr0 ca v s
  | .v3Chr1 ca v => Sys2Proof.Machine.execV3Chr1 ca v s
  | .v3Chr2 ca v => Sys2Proof.Machine.execV3Chr2 ca v s
  | .v3Chr3 ca v => Sys2Proof.Machine.execV3Chr3 ca v s
  | .v3Chr4 ca v => Sys2Proof.Machine.execV3Chr4 ca v s
  | .v3Chr5 ca v => Sys2Proof.Machine.execV3Chr5 ca v s
  | .v3Chr6 ca v => Sys2Proof.Machine.execV3Chr6 ca v s
  | .v3Chr7 ca v => Sys2Proof.Machine.execV3Chr7 ca v s
  | .v3IrqLatch ca v => Sys2Proof.Machine.execV3IrqLatch ca v s
  | .v3IrqControl ca v => Sys2Proof.Machine.execV3IrqControl ca v s
  | .v3IrqAck ca v => Sys2Proof.Machine.execV3IrqAck ca v s
  | .v3UnmatchedF3Nop ca v => Sys2Proof.Machine.execV3UnmatchedF3Nop ca v s

end Sys2Proof.Machine
end

