-- ==== Sys2Proof/Machine/Fetch.lean ====
section
/-! DEFINITION. How a table word comes to be the next operation (log entries 1 and 12). -/

namespace Sys2Proof.Machine

/-- A command word as the next operation, with no image beside it. -/
def State.presentCmd (s : State) (w : CmdWord) : State := s.present { word := w, image := none }

/-- A register write of the variant table words are read under as the next operation: a class of that variant whose
wiring is the identity, the `W_REG` handler at the address, and the `WR` that reaches the register (log entry 12). -/
def State.presentReg (s : State) (ca : Word) (v : Byte) : State :=
  State.presentCmd
    (State.modifyCpu { s with pcbClass := .vrc24A0A1 } ca.toNat 1 (Slot.setWrite .wReg 1 0))
    (cmdWord 0x02 ca 0 v 0)

/-- An instruction numbered as spec/opcode_table.json numbers its bits as the next operation. -/
def State.presentTableWord (s : State) (nbits w : Nat) : State :=
  if 24 < nbits then s.presentCmd (BitVec.ofNat 64 w)
  else s.presentReg (BitVec.ofNat 16 w) (BitVec.ofNat 8 (w >>> 16))

end Sys2Proof.Machine
end

