-- ==== Sys2Proof/Machine/Step.lean ====
section
/-! DEFINITION. One step of ADD: the next operation of the trace is performed (00_scope.md R10, 10_state.md R23). -/

namespace Sys2Proof.Machine

/-- One step. With no operation left nothing happens (log entry 1); a word that is not a command is refused
(30_encoding.md R99); else the operation is taken off the trace and performed. -/
def step (s : State) : Host.Outcome State Fault Refusal :=
  match s.trace with
  | [] => .next s
  | l :: rest =>
    match decodeCmd l.word with
    | .ok i => exec i (s.accept l rest)
    | .error why => .refused (.notACommand why)

/-- The state with an instruction of the opcode table placed where `step` takes its next operation from. -/
def State.withFetchWord (s : State) (nbits w : Nat) : State := s.presentTableWord nbits w

end Sys2Proof.Machine
end

