-- ==== Sys2Proof/Safety.lean ====
section
/-! DEFINITION. What every state of ADD that operations lead to satisfies (10_state.md R42 and the sentences of R21,
R22, R26, R28, R37, R282 that say which variant uses what), and what it is for an operation to complete. -/

namespace Sys2Proof.Machine

/-- The operation completes: it has a next state (60_exceptions.md R290: every operation is total). -/
def Completes (o : Host.Outcome State Fault Refusal) : Prop := ∃ t, o = .next t

/-- The invariant of the mapper and the IRQ counter. -/
structure State.Inv (s : State) : Prop where
  /-- The class is the one the image's ids classify to (R27, 41_mapper_common.md R150). -/
  pcbClass : s.pcbClass = (classify s.rom.mapperId s.rom.subMapperId).1
  /-- The fixed-bank offset is the one of the image's PRG (R28; R42 (4)). -/
  fixedOffset : s.fixedOffset = fixedOffsetOf s.variant s.rom.prg.length
  /-- The divider stands below `IRQ_DIV_N` (R38; R42 (3)). -/
  divPhase : s.irq.divPhase < Config.irqDivN
  /-- No rule stores `MIR_4` into `mirror` (46_mirroring_selector.md R282). -/
  mirror : s.mirror ≠ .mode .fourScreen
  /-- The PRG registers hold at most five bits (R42 (6)). -/
  prgReg : ∀ i : Fin 2, s.prgReg[i].toNat ≤ 0x1F

/-- The canonical forms: equal tables and equal byte stores are equal data. -/
structure State.Canonical (s : State) : Prop where
  cpuSlots : SlotTable.wf Config.cpuSlotCount s.cpuSlots = true
  gfxSlots : SlotTable.wf Config.gfxSlotCount s.gfxSlots = true
  chrRam : Memory.wf Config.chrRamBytes s.chrRam = true
  rom : s.rom.wf = true
  imageIn : s.imageIn.wf = true
  trace : ∀ l ∈ s.trace, ∀ r, l.image = some r → r.wf = true

/-- What a variant does not use keeps its power-on value, and its PRG registers hold no more bits than it implements
(R21, R22, R26, R37; 45_mapper_variants.md R242, R243, R247, R253, R255, R263, R264). -/
def State.VariantInv (s : State) : Prop :=
  match s.variant with
  | .v0 =>
    s.prgReg[0].toNat ≤ 0x1F ∧ s.prgReg[1] = 0 ∧ s.chrReg = Vector.replicate 8 0 ∧ s.style = 0 ∧
      s.mirror = .noOverride ∧ s.irq = .reset
  | .v1 => s.prgReg[0].toNat ≤ 0x07 ∧ s.prgReg[1] = 0 ∧ s.chrReg = Vector.replicate 8 0 ∧ s.style = 0 ∧ s.irq = .reset
  | .v2 => s.prgReg[0].toNat ≤ 0x1F ∧ s.prgReg[1].toNat ≤ 0x1F ∧ s.style = 0
  | .v3 => s.prgReg[0].toNat ≤ 0x0F ∧ s.prgReg[1].toNat ≤ 0x1F

end Sys2Proof.Machine
end

