-- ==== Sys2Proof/Certificates/Slice0/Obligations.lean ====
section
/-! DEFINITION. The statements about the model, from the spec's numbered rules. The words they use come first. -/

namespace Sys2Proof.Statements

open Sys2Proof.Machine

/-- `i` is a bus read of address `a` that goes through the slot `x` (40_bus_dispatch.md R122, R124). -/
def ReadAccess (s : State) (i : Instr) (x : Slot) (a : Word) : Prop :=
  (i = .rd a ∧ x = s.cpuSlots.get a.toNat) ∨
    ∃ g : GfxAddr, i = .grd g ∧ x = s.gfxSlots.get g.toNat ∧ a = gfxWord g

/-- `i` is a bus write of `v` to address `a` that goes through the slot `x` (40_bus_dispatch.md R123, R125). -/
def WriteAccess (s : State) (i : Instr) (x : Slot) (a : Word) (v : Byte) : Prop :=
  (i = .wr a v ∧ x = s.cpuSlots.get a.toNat) ∨
    ∃ g : GfxAddr, i = .gwr g v ∧ x = s.gfxSlots.get g.toNat ∧ a = gfxWord g

/-- The state after a read that took one free open-bus byte and changed nothing else (R130, R157). -/
def openBusAnswer (s : State) : State :=
  { s with result := .byte (Config.openBus s.draws), draws := s.draws + 1 }

/-- The address `a` lies in the window `w`. -/
def InWindow (w : PrgWindow) (a : Word) : Prop := w.base ≤ a.toNat ∧ a.toNat < w.base + w.size

/-- `i` is the operation `j`, or a bus write that reaches the register `j` through the `W_REG` handler (R156). -/
def Performs (s : State) (i j : Instr) : Prop :=
  i = j ∨ ∃ x a v, WriteAccess s i x a v ∧ x.wk = .wReg ∧
    decodeReg s.variant (swizzle s.wiring a) v = some j

/-- `i` is a bus write that reaches the register map with canonical address `ca` and data `v` (R156). -/
def ReachesMap (s : State) (i : Instr) (ca : Word) (v : Byte) : Prop :=
  ∃ x a, WriteAccess s i x a v ∧ x.wk = .wReg ∧ ca = swizzle s.wiring a

/-- The state with another IRQ counter, and an `IrqLine` event exactly on an edge of the line (R202 to R204, R208). -/
def withIrq (s : State) (q : Irq) : State :=
  { s with
    irq := q
    events := s.events ++ (if s.irq.pending = q.pending then [] else [.irqLine q.pending]) }

/-- The IRQ counter after `IRQ.SetControl(b)` (R202). -/
def afterControl (q : Irq) (b : Byte) : Irq :=
  { latch := q.latch
    counter := if b.getLsbD 1 then q.latch else q.counter
    enabled := b.getLsbD 1
    cycleMode := b.getLsbD 2
    pending := if b.getLsbD 1 then false else q.pending
    divPhase := if b.getLsbD 1 then 0 else q.divPhase }

/-- The mode a two-bit mirroring field selects, `[MIR_V, MIR_H, MIR_1A, MIR_1B]` (R254, R266). -/
def fieldMode (n : Nat) : NtMode := [NtMode.vertical, .horizontal, .singleA, .singleB].getD n .singleB

/-- The state after a mirroring register write of mode `m`: the mode stored, and `NtMode` of it emitted (R282). -/
def mirrored (s : State) (m : NtMode) : State :=
  { s with mirror := .mode m, events := s.events ++ [.ntMode m] }

/-- `n` `TICK`s in a row. -/
def ticks : Nat → State → Host.Outcome State Fault Refusal
  | 0, s => .next s
  | n + 1, s =>
    match exec .tick s with
    | .next t => ticks n t
    | .fault r => .fault r
    | .refused r => .refused r

/-- What 30_encoding.md R99 says makes a word not a command. -/
def NotACommand (w : CmdWord) : Prop :=
  let op := w.extractLsb' 56 8
  let addr := w.extractLsb' 40 16
  let param := w.extractLsb' 24 16
  let data := w.extractLsb' 16 8
  let owner := w.extractLsb' 8 8
  op ∉ [0x01#8, 0x02, 0x03, 0x04, 0x10, 0x11, 0x12, 0x13, 0x20, 0x21, 0x30, 0x40, 0x41] ∨
  w.extractLsb' 0 8 ≠ 0 ∨
  (op ∈ [0x20#8, 0x21, 0x30] ∧ addr ≠ 0) ∨
  (op ∈ [0x01#8, 0x02, 0x03, 0x04, 0x20, 0x21, 0x30, 0x40] ∧ param ≠ 0) ∨
  (op ∈ [0x01#8, 0x03, 0x20, 0x21, 0x30, 0x41] ∧ data ≠ 0) ∨
  (op ∈ [0x01#8, 0x02, 0x03, 0x04, 0x20, 0x21, 0x30, 0x40, 0x41] ∧ owner ≠ 0) ∨
  (op ∈ [0x03#8, 0x04, 0x12, 0x13] ∧ addr.extractLsb' 13 3 ≠ 0) ∨
  (op ∈ [0x10#8, 0x12] ∧ 5 < data.toNat) ∨
  (op ∈ [0x11#8, 0x13] ∧ 3 < data.toNat)

/-- The place in an address that bit `n` of `SWZ_w` comes from (42_swizzle.md R181 to R186). -/
def swizzleBit : Wiring → Nat → Nat
  | .a0a1, n => n
  | .a1a0, n => if n = 0 then 1 else if n = 1 then 0 else n
  | .a1a2, n => if n = 0 then 1 else if n = 1 then 2 else if n = 2 then 0 else n
  | .a2a3, n => if n = 0 then 2 else if n = 2 then 0 else if n = 1 then 3 else if n = 3 then 1 else n
  | .a3a2, n => if n = 0 then 3 else if n = 3 then 0 else if n = 1 then 2 else if n = 2 then 1 else n
  | .a6a7, n => if n = 0 then 6 else if n = 6 then 0 else if n = 1 then 7 else if n = 7 then 1 else n

/-- The address lines that feed selector bit 0 and selector bit 1 (42_swizzle.md R180). -/
def selectorLines : Wiring → Nat × Nat
  | .a0a1 => (0, 1) | .a1a0 => (1, 0) | .a1a2 => (1, 2) | .a2a3 => (2, 3) | .a3a2 => (3, 2) | .a6a7 => (6, 7)

/-- The read half of the CPU slot `APPLY` installs at an address of register space, and the default below it, by
variant (45_mapper_variants.md R241, R246, R251, R261). -/
def appliedRead (m : Variant) (a : Nat) : ReadKind × Byte × Word :=
  if a < 0x8000 then (.rOpen, 0, 0)
  else match m with
    | .v0 => if a < 0xC000 then (.rPrgSwap, 1, 0) else (.rPrgFixed, 1, 1)
    | .v1 => (.rPrgSwap, 1, 0)
    | .v2 => if a < 0xA000 then (.rPrgSwap, 1, 0) else if a < 0xC000 then (.rPrgSwap, 1, 1) else (.rPrgFixed, 1, 2)
    | .v3 => if a < 0xC000 then (.rPrgSwap, 1, 0) else if a < 0xE000 then (.rPrgSwap, 1, 1) else (.rPrgFixed, 1, 2)

/-- `CHR` window of a slot: base, bank size and register, by variant and style (R243, R248, R257, R267). -/
def chrWindow (m : Variant) (style k : Nat) : Nat × Nat × Option Nat :=
  match m with
  | .v0 | .v1 => (0, 0x2000, none)
  | .v2 => (k * 0x400, 0x400, some k)
  | .v3 =>
    if style = 0 then (k * 0x400, 0x400, some k)
    else if style = 1 then (k / 2 * 0x800, 0x800, some (k / 2))
    else if k ≤ 3 then (k * 0x400, 0x400, some k)
    else if k ≤ 5 then (0x1000, 0x800, some 4)
    else (0x1800, 0x800, some 5)

/-- `b` is the CHR byte that the window of slot number `k` holds at address `a` (R155). -/
def ChrByte (s : State) (k : Nat) (a : Word) (b : Byte) : Prop :=
  match chrWindow s.variant s.style.toNat k with
  | (base, _, none) => s.rom.chr.byteAt ((a.toNat - base) % s.rom.chr.length) = some b
  | (base, gran, some r) => ∀ h : r < 8, s.rom.chr.byteAt
      (((a.toNat - base) + s.chrReg[r].toNat % max 1 (s.rom.chr.length / gran) * gran) % s.rom.chr.length) = some b

/-- The fixed-bank offset of a PRG of `S` bytes by variant: the fixed window is 16 KiB, absent, 16 KiB, 8 KiB (R150,
R241, R246, R251, R261). -/
def fixedOffsetFor (m : Variant) (S : Nat) : Nat :=
  match m with
  | .v0 | .v2 => max S 0x4000 - 0x4000
  | .v1 => 0
  | .v3 => max S 0x2000 - 0x2000

/-- The image `INIT` stores: the presented one with the fields of the override entry that are not none (R150). -/
def storedImage (r : RomImage) (e : Option OverrideEntry) : RomImage :=
  match e with
  | none => r
  | some e =>
    { r with
      declMirror := match e.mir with
        | some m => m
        | none => r.declMirror
      region := match e.region with
        | some x => x
        | none => r.region
      mapperId := if e.mapper ≠ 0xFFFF then e.mapper else r.mapperId }

/-- The register row that writes the low half of CHR register `r` in V2 (R256). -/
def v2ChrLowRow (r : Fin 8) (ca : Word) (v : Byte) : Instr :=
  match r with
  | 0 => .v2Chr0Lo ca v | 1 => .v2Chr1Lo ca v | 2 => .v2Chr2Lo ca v | 3 => .v2Chr3Lo ca v
  | 4 => .v2Chr4Lo ca v | 5 => .v2Chr5Lo ca v | 6 => .v2Chr6Lo ca v | 7 => .v2Chr7Lo ca v

/-- The register row that writes the high half of CHR register `r` in V2 (R256). -/
def v2ChrHighRow (r : Fin 8) (ca : Word) (v : Byte) : Instr :=
  match r with
  | 0 => .v2Chr0Hi ca v | 1 => .v2Chr1Hi ca v | 2 => .v2Chr2Hi ca v | 3 => .v2Chr3Hi ca v
  | 4 => .v2Chr4Hi ca v | 5 => .v2Chr5Hi ca v | 6 => .v2Chr6Hi ca v | 7 => .v2Chr7Hi ca v

/-- The register row that writes CHR register `r` in V3 (R265). -/
def v3ChrRow (r : Fin 8) (ca : Word) (v : Byte) : Instr :=
  match r with
  | 0 => .v3Chr0 ca v | 1 => .v3Chr1 ca v | 2 => .v3Chr2 ca v | 3 => .v3Chr3 ca v
  | 4 => .v3Chr4 ca v | 5 => .v3Chr5 ca v | 6 => .v3Chr6 ca v | 7 => .v3Chr7 ca v

/-- PRG register `k`, `old` before, after a write `v` to a canonical address of register space (R242, R247, R253, R255,
R263, R264). -/
def prgWritten (m : Variant) (ca : Word) (v : Byte) (k : Fin 2) (old : Byte) : Byte :=
  let g := ca.toNat / 4096
  match m with
  | .v0 => if k = 0 then v &&& 0x1F else old
  | .v1 => if k = 0 then v &&& 0x07 else old
  | .v2 => if (k = 0 ∧ g = 0x8) ∨ (k = 1 ∧ g = 0xA) then v &&& 0x1F else old
  | .v3 => if k = 0 ∧ g = 0x8 then v &&& 0x0F else if k = 1 ∧ g = 0xC then v &&& 0x1F else old

/-- CHR register `k`, `old` before, after a write `v` to a canonical address of register space (R243, R248, R256,
R265). -/
def chrWritten (m : Variant) (ca : Word) (v : Byte) (k : Fin 8) (old : Byte) : Byte :=
  let g := ca.toNat / 4096
  let sel := ca.toNat % 4
  match m with
  | .v0 | .v1 => old
  | .v2 =>
    if 0xB ≤ g ∧ g ≤ 0xE ∧ k.val = (g - 0xB) * 2 + sel / 2 then
      if sel % 2 = 0 then (old &&& 0xF0#8) ||| (v &&& 0x0F#8) else (old &&& 0x0F#8) ||| ((v &&& 0x0F#8) <<< 4)
    else old
  | .v3 => if (g = 0xD ∨ g = 0xE) ∧ k.val = (g - 0xD) * 4 + sel then v else old

/-- The style, `old` before, after a write `v` to a canonical address of register space (R266). -/
def styleWritten (m : Variant) (ca : Word) (v : Byte) (old : BitVec 2) : BitVec 2 :=
  if m = .v3 ∧ ca.toNat / 4096 = 0xB ∧ ca.toNat % 4 = 3 then (v &&& 3).truncate 2 else old

/-- The registers of 10_state.md R42, as that rule states them. -/
def R42 (s : State) : Prop :=
  (∀ a, (readKindCode (s.cpuSlots.get a).rk).toNat ≤ 5 ∧ (writeKindCode (s.cpuSlots.get a).wk).toNat ≤ 3 ∧
    (readKindCode (s.gfxSlots.get a).rk).toNat ≤ 5 ∧ (writeKindCode (s.gfxSlots.get a).wk).toNat ≤ 3) ∧
  (mirrorCode s.mirror).toNat ≤ 5 ∧
  s.irq.divPhase < Config.irqDivN ∧
  (s.fixedOffset ≤ s.rom.prg.length ∧ (s.fixedOffset = s.rom.prg.length ↔ s.rom.prg.length = 0)) ∧
  s.irqLine = s.irq.pending ∧
  ∀ i : Fin 2, s.prgReg[i].toNat ≤ 0x1F

end Sys2Proof.Statements

open Sys2Proof Sys2Proof.Machine Sys2Proof.Statements

/-! ### The step and the encoding -/

/-- R10, R23: one operation is one step, and the trace moves on by exactly one line. The trace in the state, the side
input and the cleared result are the model's (log entries 1 to 3). -/
def Obligations.StepPerformsTheNextCommand : Prop :=
  ∀ (s : State) (l : TraceLine) (rest : List TraceLine) (i : Instr), s.trace = l :: rest → decodeCmd l.word = .ok i →
    step s = exec i { s with trace := rest, imageIn := l.image.getD s.imageIn, result := .none }

/-- Log entry 1, the model's choice: with no operation left nothing happens. -/
def Obligations.StepWithoutOperationIdles : Prop :=
  ∀ s : State, s.trace = [] → step s = .next s

/-- R97 with R99, R295: the words that are not commands are exactly those a field rules out, and the model refuses
them. -/
def Obligations.WordsThatAreNotCommands : Prop :=
  (∀ w : CmdWord, (∃ i, decodeCmd w = .ok i) ↔ ¬ NotACommand w) ∧
  ∀ (s : State) (l : TraceLine) (rest : List TraceLine), s.trace = l :: rest → NotACommand l.word →
    ∃ why, step s = .refused (.notACommand why)

/-- Decoding the encoding of a well-formed instruction gives it back, with whatever bytes follow. The byte layout of
register rows is the model's (log entry 13). -/
def Obligations.DecodeOfEncode : Prop :=
  ∀ (i : Instr) (rest : List Byte), i.wellFormed = true → decode i.format (encode i ++ rest) = .ok (i, rest)

/-- What the decoder accepts is the encoding of the well-formed instruction it answers. The byte layout of register
rows is the model's (log entry 13). -/
def Obligations.EncodeOfDecode : Prop :=
  ∀ (f : Format) (bs rest : List Byte) (i : Instr), decode f bs = .ok (i, rest) →
    i.format = f ∧ i.wellFormed = true ∧ bs = encode i ++ rest

/-- R108: a register-map write reaches a row exactly when `ca & mask = match`, and no two rows of one format match one
canonical address. -/
def Obligations.RegisterRowsMatchExactly : Prop :=
  (∀ (m : Variant) (ca : Word) (v : Byte) (i : Instr), decodeReg m ca v = some i ↔
    i.format = .regw m ∧ i.regWord = some (ca, v) ∧ i.wellFormed = true) ∧
  ∀ i j : Instr, i.format = j.format → i.regWord = j.regWord → i.regWord.isSome → i.wellFormed = true →
    j.wellFormed = true → i = j

/-- Words the spec writes out decode to what they stand for: the command words of 95_test_vectors.md section 9, and
the register writes of its sections 7.3 and 7.4, by canonical address (R100, R108, R255, R266). -/
def Obligations.WrittenOutWords : Prop :=
  decodeCmd 0x01C0000000000000 = .ok (.rd 0xC000) ∧
  decodeCmd 0x02B0010000120000 = .ok (.wr 0xB001 0x12) ∧
  decodeCmd 0x1020000007050200 = .ok (.setrf 0x2000 .rExt 2 7) ∧
  decodeCmd 0x1300000000030300 = .ok (.gsetwf 0 .wExt 3 0) ∧
  decodeCmd 0x41B00ABE1C000000 = .ok (.lookup 0xB00ABE1C) ∧
  decodeCmd 0x0320000000000000 = .error .graphicsAddress ∧
  decodeReg .v2 0xAFFC 0xE3 = some (.v2Prg1 0xAFFC 0xE3) ∧
  decodeReg .v3 0xB003 0xFB = some (.v3BankingControl 0xB003 0xFB)

/-! ### Totality -/

/-- R290: every operation is total, and a step never faults. -/
def Obligations.EveryOperationCompletes : Prop :=
  (∀ (i : Instr) (s : State), Completes (exec i s)) ∧ ∀ (s : State) (r : Fault), step s ≠ .fault r

/-- R65, R135: a bus read at any address, in any state, answers one byte and changes no state of ADD; it takes a free
byte at most. -/
def Obligations.BusReadsAnswerAByte : Prop :=
  ∀ (s : State) (i : Instr) (x : Slot) (a : Word), ReadAccess s i x a →
    ∃ b n, exec i s = .next { s with result := .byte b, draws := n } ∧ (n = s.draws ∨ n = s.draws + 1)

/-- R77: in a state that meets the invariant every ROM offset a handler forms is in bounds, and so is every CHR-RAM
offset. -/
def Obligations.RomReadsInBounds : Prop :=
  ∀ (s : State) (k : ReadKind) (o : Byte) (p a : Word), s.Inv → ∀ off,
    (s.readSource k o p a = .prg off → off < s.rom.prg.length) ∧
    (s.readSource k o p a = .chr off → off < s.rom.chr.length) ∧
    (s.readSource k o p a = .chrRam off → off < 8192) ∧
    (s.rom.prg.length = 0 → k = .rPrgFixed ∨ k = .rPrgSwap → s.readSource k o p a = .openBus) ∧
    (s.rom.chr.length = 0 → k = .rChr → s.readSource k o p a = .openBus)

/-! ### Reads -/

/-- R130, R131: open bus answers a free byte, a device outside ADD answers its own; nothing of ADD changes. The free
values are the model's (log entries 4 and 5); the statement holds whatever they are. -/
def Obligations.OpenBusAndExternalReads : Prop :=
  ∀ (s : State) (i : Instr) (x : Slot) (a : Word), ReadAccess s i x a →
    (x.rk = .rOpen → exec i s = .next (openBusAnswer s)) ∧
    (x.rk = .rExt →
      exec i s = .next { s with result := .byte (Config.extRead s.draws x.ro x.rp a), draws := s.draws + 1 })

/-- R153: the fixed-bank read, its degenerate cases included. -/
def Obligations.FixedBankRead : Prop :=
  ∀ (s : State) (i : Instr) (x : Slot) (a : Word), s.Inv → ReadAccess s i x a → x.rk = .rPrgFixed →
    (∀ w, (prgWin s.variant)[x.rp.toNat]? = some w → w.kind = .fixed → InWindow w a → s.rom.prg.length ≠ 0 →
      ∃ b, s.rom.prg.byteAt (s.fixedOffset + (a.toNat - w.base) % max 1 (s.rom.prg.length - s.fixedOffset)) = some b ∧
        exec i s = .next { s with result := .byte b }) ∧
    ((∀ w, (prgWin s.variant)[x.rp.toNat]? = some w → w.kind = .fixed → ¬ (InWindow w a ∧ s.rom.prg.length ≠ 0)) →
      exec i s = .next (openBusAnswer s))

/-- R154: the swappable-bank read, its degenerate cases included. -/
def Obligations.SwappableBankRead : Prop :=
  ∀ (s : State) (i : Instr) (x : Slot) (a : Word), ReadAccess s i x a → x.rk = .rPrgSwap →
    (∀ w r, (prgWin s.variant)[x.rp.toNat]? = some w → w.kind = .swap r → InWindow w a → s.rom.prg.length ≠ 0 →
      ∃ b, s.rom.prg.byteAt
          (((a.toNat - w.base) + s.prgReg[r].toNat % max 1 (s.rom.prg.length / w.size) * w.size)
            % s.rom.prg.length) = some b ∧
        exec i s = .next { s with result := .byte b }) ∧
    ((∀ w r, (prgWin s.variant)[x.rp.toNat]? = some w → w.kind = .swap r →
        ¬ (InWindow w a ∧ s.rom.prg.length ≠ 0)) →
      exec i s = .next (openBusAnswer s))

/-- R162: where the bank size divides the ROM size, the two closed formulas of the source give the byte read. -/
def Obligations.SwappableReadClosedForms : Prop :=
  ∀ (s : State) (i : Instr) (x : Slot) (a : Word) (w : PrgWindow) (r : Fin 2) (k : Nat),
    ReadAccess s i x a → x.rk = .rPrgSwap → (prgWin s.variant)[x.rp.toNat]? = some w → w.kind = .swap r →
    InWindow w a → s.rom.prg.length = k * w.size → 0 < k →
    ∃ b, s.rom.prg.byteAt ((a.toNat - w.base) + s.prgReg[r].toNat % (s.rom.prg.length / w.size) * w.size) = some b ∧
      s.rom.prg.byteAt (((a.toNat - w.base) + s.prgReg[r].toNat * w.size) % s.rom.prg.length) = some b ∧
      exec i s = .next { s with result := .byte b }

/-- R155: the CHR-ROM read, its degenerate cases included, with the windows of R243, R248, R257, R267, of which the
spec marks R257 and R267 as not in its source (log entry 15). -/
def Obligations.ChrRomRead : Prop :=
  ∀ (s : State) (i : Instr) (x : Slot) (a : Word), ReadAccess s i x a → x.rk = .rChr →
    if x.rp.toNat ≤ 7 ∧ a.toNat < 0x2000 ∧ a.toNat / 1024 = x.rp.toNat ∧ s.rom.chr.length ≠ 0 then
      ∃ b, exec i s = .next { s with result := .byte b } ∧ ChrByte s x.rp.toNat a b
    else exec i s = .next (openBusAnswer s)

/-- R158, R159: CHR-RAM reads and writes at `a mod 8192`; a write changes that byte and nothing else. -/
def Obligations.ChrRamAccess : Prop :=
  (∀ (s : State) (i : Instr) (x : Slot) (a : Word), ReadAccess s i x a → x.rk = .rChrRam →
    exec i s = .next { s with result := .byte (s.chrRamByte (a.toNat % 8192)) }) ∧
  ∀ (s : State) (i : Instr) (x : Slot) (a : Word) (v : Byte), WriteAccess s i x a v → x.wk = .wChrRam →
    ∃ t, exec i s = .next t ∧ t = { s with chrRam := t.chrRam } ∧
      ∀ off, t.chrRamByte off = if off = a.toNat % 8192 then v else s.chrRamByte off

/-! ### Writes -/

/-- R132, R133: an ignored write changes nothing, an external write emits its event and changes nothing else. -/
def Obligations.IgnoredAndExternalWrites : Prop :=
  ∀ (s : State) (i : Instr) (x : Slot) (a : Word) (v : Byte), WriteAccess s i x a v →
    (x.wk = .wIgnore → exec i s = .next s) ∧
    (x.wk = .wExt → exec i s = .next { s with events := s.events ++ [.extWrite x.wo x.wp a v] })

/-- R156: a register write performs the register that the canonical address reaches in the variant in force, does
nothing where there is none, accepts every byte, and changes no slot. -/
def Obligations.RegisterWriteReachesItsRow : Prop :=
  ∀ (s : State) (i : Instr) (ca : Word) (v : Byte), ReachesMap s i ca v →
    (∀ j, decodeReg s.variant ca v = some j → exec i s = exec j s) ∧
    (decodeReg s.variant ca v = none → exec i s = .next s) ∧
    ∃ t, exec i s = .next t ∧ t.cpuSlots = s.cpuSlots ∧ t.gfxSlots = s.gfxSlots

/-- R134: each kind installed on the table it does not belong to; the CHR byte is that of R155 with the windows of
R243, R248, R257, R267, of which the spec marks R257 and R267 as not in its source (log entry 15). -/
def Obligations.KindsOnTheOtherTable : Prop :=
  (∀ (s : State) (g : GfxAddr),
    ((s.gfxSlots.get g.toNat).rk = .rPrgFixed ∨ (s.gfxSlots.get g.toNat).rk = .rPrgSwap →
      exec (.grd g) s = .next (openBusAnswer s)) ∧
    ∀ v, (s.gfxSlots.get g.toNat).wk = .wReg → exec (.gwr g v) s = .next s) ∧
  ∀ (s : State) (a : Word),
    ((s.cpuSlots.get a.toNat).rk = .rChr →
      (¬ (a.toNat < 0x2000 ∧ a.toNat / 1024 = (s.cpuSlots.get a.toNat).rp.toNat) →
        exec (.rd a) s = .next (openBusAnswer s)) ∧
      (a.toNat < 0x2000 → a.toNat / 1024 = (s.cpuSlots.get a.toNat).rp.toNat → s.rom.chr.length ≠ 0 →
        ∃ b, exec (.rd a) s = .next { s with result := .byte b } ∧ ChrByte s (a.toNat / 1024) a b)) ∧
    ((s.cpuSlots.get a.toNat).rk = .rChrRam →
      exec (.rd a) s = .next { s with result := .byte (s.chrRamByte (a.toNat % 8192)) }) ∧
    ∀ v, (s.cpuSlots.get a.toNat).wk = .wChrRam →
      ∃ t, exec (.wr a v) s = .next t ∧ t.chrRamByte (a.toNat % 8192) = v

/-- R21, R22, R26, R36, R66: the bank registers and the style change only in a register write and in `INIT`, CHR-RAM
only through `W_CHR_RAM` and in `INIT`. -/
def Obligations.RegisterAndChrRamWriters : Prop :=
  ∀ (i : Instr) (s t : State), exec i s = .next t → i ≠ .init →
    (t.prgReg ≠ s.prgReg ∨ t.chrReg ≠ s.chrReg ∨ t.style ≠ s.style → ∃ j, Performs s i j ∧ j.regWord.isSome) ∧
    ∀ off, t.chrRamByte off ≠ s.chrRamByte off →
      ∃ x a v, WriteAccess s i x a v ∧ x.wk = .wChrRam ∧ off = a.toNat % 8192 ∧ t.chrRamByte off = v

/-! ### Slot programming -/

/-- R126 to R129: one half of exactly one slot. -/
def Obligations.SlotProgramming : Prop :=
  ∀ (s : State) (a : Word) (g : GfxAddr) (k : ReadKind) (w : WriteKind) (o : Byte) (p : Word),
    (∃ t, exec (.setrf a k o p) s = .next t ∧ t = { s with cpuSlots := t.cpuSlots } ∧
      ∀ b, t.cpuSlots.get b =
        if b = a.toNat then { s.cpuSlots.get b with rk := k, ro := o, rp := p } else s.cpuSlots.get b) ∧
    (∃ t, exec (.setwf a w o p) s = .next t ∧ t = { s with cpuSlots := t.cpuSlots } ∧
      ∀ b, t.cpuSlots.get b =
        if b = a.toNat then { s.cpuSlots.get b with wk := w, wo := o, wp := p } else s.cpuSlots.get b) ∧
    (∃ t, exec (.gsetrf g k o p) s = .next t ∧ t = { s with gfxSlots := t.gfxSlots } ∧
      ∀ b, t.gfxSlots.get b =
        if b = g.toNat then { s.gfxSlots.get b with rk := k, ro := o, rp := p } else s.gfxSlots.get b) ∧
    (∃ t, exec (.gsetwf g w o p) s = .next t ∧ t = { s with gfxSlots := t.gfxSlots } ∧
      ∀ b, t.gfxSlots.get b =
        if b = g.toNat then { s.gfxSlots.get b with wk := w, wo := o, wp := p } else s.gfxSlots.get b)

/-- R138: no other operation changes a slot. -/
def Obligations.TablesChangeOnlyByHost : Prop :=
  ∀ (i : Instr) (s t : State), exec i s = .next t →
    (∀ a k o p, i ≠ .setrf a k o p) → (∀ a k o p, i ≠ .setwf a k o p) → (∀ a k o p, i ≠ .gsetrf a k o p) →
    (∀ a k o p, i ≠ .gsetwf a k o p) → i ≠ .apply → t.cpuSlots = s.cpuSlots ∧ t.gfxSlots = s.gfxSlots

/-! ### Loading -/

/-- R150: `INIT`. The draw counter of CHR-RAM is the model's (log entry 6); the sizes of the fixed windows are ones
the spec marks as not in its source (R241, R246, R251, R261; log entry 15). -/
def Obligations.InitLoadsTheImage : Prop :=
  ∀ s : State, ∃ t, exec .init s = .next t ∧
    t.rom = storedImage s.imageIn (lookupOverride s.imageIn.crc) ∧
    t.prgSizeOverride = (match lookupOverride s.imageIn.crc with
      | some e => e.prgSize
      | none => 0) ∧
    t.pcbClass = (classify t.rom.mapperId t.rom.subMapperId).1 ∧
    (∀ k : Fin 2, t.prgReg[k] = 0) ∧ (∀ k : Fin 8, t.chrReg[k] = 0) ∧
    t.style = 0 ∧ t.mirror = .noOverride ∧
    t.fixedOffset = fixedOffsetFor t.variant t.rom.prg.length ∧
    t.irq = { latch := 0, counter := 0, enabled := false, cycleMode := false, pending := false, divPhase := 0 } ∧
    t.irqLine = false ∧
    (∀ off, t.chrRamByte off = Config.chrRamInit (s.chrRamDraw + 1) off) ∧ t.chrRamDraw = s.chrRamDraw + 1 ∧
    t.events = s.events ++
      (if (classify t.rom.mapperId t.rom.subMapperId).2 then []
        else [.unknownMapper t.rom.mapperId t.rom.subMapperId]) ++
      (if s.irq.pending then [.irqLine false] else []) ∧
    t.cpuSlots = s.cpuSlots ∧ t.gfxSlots = s.gfxSlots ∧
    t.trace = s.trace ∧ t.imageIn = s.imageIn ∧ t.draws = s.draws ∧ t.result = s.result

/-- R151: `APPLY`, slot by slot, with the windows of the four variants; registers and ROM stay. The windows are ones
the spec marks as not in its source (log entry 15). -/
def Obligations.ApplyInstallsTheTables : Prop :=
  ∀ s : State, ∃ t, exec .apply s = .next t ∧
    t = { s with
      cpuSlots := t.cpuSlots
      gfxSlots := t.gfxSlots
      events := s.events ++ [.ntMode s.effMirror] } ∧
    (∀ a < 65536, t.cpuSlots.get a =
      { rk := (appliedRead s.variant a).1, ro := (appliedRead s.variant a).2.1, rp := (appliedRead s.variant a).2.2,
        wk := if a < 0x8000 then .wIgnore else .wReg, wo := if a < 0x8000 then 0 else 1, wp := 0 }) ∧
    (∀ a < 8192, t.gfxSlots.get a =
      if (s.variant = .v0 ∨ s.variant = .v1) ∧ 0 < s.rom.chrRamSize then
        { rk := .rChrRam, ro := 1, rp := 0, wk := .wChrRam, wo := 1, wp := 0 }
      else { rk := .rChr, ro := 1, rp := BitVec.ofNat 16 (a / 1024), wk := .wIgnore, wo := 0, wp := 0 })

/-- R164: the tables `APPLY` writes depend on the class and the declared CHR-RAM size alone, and a second `APPLY`
leaves them as they are. -/
def Obligations.ApplyIsIdempotent : Prop :=
  (∀ s s' t t' : State, exec .apply s = .next t → exec .apply s' = .next t' → s.pcbClass = s'.pcbClass →
    s.rom.chrRamSize = s'.rom.chrRamSize → t.cpuSlots = t'.cpuSlots ∧ t.gfxSlots = t'.gfxSlots) ∧
  ∀ s t u : State, exec .apply s = .next t → exec .apply t = .next u →
    u.cpuSlots = t.cpuSlots ∧ u.gfxSlots = t.gfxSlots ∧
    ∀ i x a, ReadAccess t i x a → ReadAccess u i x a

/-- R27, R28, R35, R45: the image, the class, the fixed-bank offset and the PRG-size override are written by `INIT`
alone. -/
def Obligations.OnlyInitWritesTheImage : Prop :=
  ∀ (i : Instr) (s t : State), exec i s = .next t → i ≠ .init →
    t.rom = s.rom ∧ t.pcbClass = s.pcbClass ∧ t.fixedOffset = s.fixedOffset ∧ t.prgSizeOverride = s.prgSizeOverride

/-- R226 with R150, R280: an image whose checksum is the table's reads vertical after `INIT`, whatever its header. It
rests on the default override table (log entry 8). -/
def Obligations.OverrideBeatsTheHeader : Prop :=
  ∀ s : State, s.imageIn.crc = 0xB00ABE1C →
    ∃ t, exec .init s = .next t ∧ t.ntMode = .vertical ∧ t.rom.mapperId = s.imageIn.mapperId

/-- R222, R292: ids that the table does not have load the simplest variant, and the event says so. It rests on the
default classification table (log entry 8). -/
def Obligations.UnknownMapperFallsBack : Prop :=
  ∀ s : State, lookupOverride s.imageIn.crc = none → s.irq.pending = false →
    (∀ r ∈ pcbTable, ¬ (r.mapperId = s.imageIn.mapperId ∧ r.subMapperId = s.imageIn.subMapperId)) →
    ∃ t, exec .init s = .next t ∧ t.pcbClass = .fixswap ∧ t.variant = .v0 ∧
      t.events = s.events ++ [.unknownMapper s.imageIn.mapperId s.imageIn.subMapperId]

/-! ### Queries -/

/-- R221: the class of the first row with both keys, else the default; a pure query. -/
def Obligations.ClassifyAnswersTheFirstRow : Prop :=
  ∀ (s : State) (m : Word) (sub : Byte),
    (∀ pre r post, pcbTable = pre ++ r :: post → (∀ q ∈ pre, ¬ (q.mapperId = m ∧ q.subMapperId = sub)) →
      r.mapperId = m → r.subMapperId = sub →
      exec (.classify m sub) s = .next { s with result := .pcbClass r.pcbClass }) ∧
    ((∀ q ∈ pcbTable, ¬ (q.mapperId = m ∧ q.subMapperId = sub)) →
      exec (.classify m sub) s = .next { s with result := .pcbClass .fixswap })

/-- R225, R227: the first entry with the checksum, else none, in any table; a pure query. -/
def Obligations.LookupAnswersTheFirstEntry : Prop :=
  (∀ (t pre post : List OverrideEntry) (e : OverrideEntry), t = pre ++ e :: post →
    (∀ q ∈ pre, q.checksum ≠ e.checksum) → lookupIn t e.checksum = some e) ∧
  (∀ (t : List OverrideEntry) (c : Checksum), (∀ q ∈ t, q.checksum ≠ c) → lookupIn t c = none) ∧
  ∀ (s : State) (c : Checksum), exec (.lookup c) s = .next { s with result := .entry (lookupIn overrideTable c) }

/-- The testable property of the source behind R223: the two neighbouring mappers classify differently. It rests on
the default classification table (log entry 8). -/
def Obligations.NeighbouringMappersDiffer : Prop :=
  ∀ s : State,
    exec (.classify 23 1) s = .next { s with result := .pcbClass .vrc24A0A1 } ∧
    exec (.classify 25 3) s = .next { s with result := .pcbClass .vrc24A1A0 } ∧
    pcbCode .vrc24A0A1 = 2 ∧ pcbCode .vrc24A1A0 = 3

/-! ### Swizzles -/

/-- R181 to R186: each bit of each swizzle; five are involutions; `A1/A2` has order 3 and is none, and no map of bit
positions that brings A1 to bit 0 and A2 to bit 1 is its own inverse (R183); V0 and V1 use the identity. -/
def Obligations.SwizzleBits : Prop :=
  (∀ (w : Wiring) (a : Word) (n : Nat), n < 16 → (swizzle w a).getLsbD n = a.getLsbD (swizzleBit w n)) ∧
  (∀ (w : Wiring) (a : Word), w ≠ .a1a2 → swizzle w (swizzle w a) = a) ∧
  (∀ a : Word, swizzle .a1a2 (swizzle .a1a2 (swizzle .a1a2 a)) = a) ∧
  (∃ a : Word, swizzle .a1a2 (swizzle .a1a2 a) ≠ a) ∧
  (∀ f : Fin 16 → Fin 16, f 0 = 1 → f 1 = 2 → ∃ n, f (f n) ≠ n) ∧
  ∀ s : State, s.variant = .v0 ∨ s.variant = .v1 → s.wiring = .a0a1

/-- R180, R187: the selector lines come to bits 0 and 1, each 4 KiB window is mapped onto itself, one-to-one, and no
bit above 7 moves. -/
def Obligations.SwizzlePermutesWithinTheWindow : Prop :=
  ∀ w : Wiring,
    (∀ a : Word, regSel (swizzle w a) = BitVec.ofBool (a.getLsbD (selectorLines w).2) ++
      BitVec.ofBool (a.getLsbD (selectorLines w).1)) ∧
    (∀ a : Word, (swizzle w a).extractLsb' 8 8 = a.extractLsb' 8 8) ∧
    (∀ a b : Word, swizzle w a = swizzle w b → a = b) ∧
    ∀ b : Word, ∃ a : Word, swizzle w a = b ∧ a.extractLsb' 12 4 = b.extractLsb' 12 4

/-! ### The registers of the variants -/

/-- R242: V0's register, by address. -/
def Obligations.V0RegisterMap : Prop :=
  ∀ (s : State) (i : Instr) (ca : Word) (v : Byte), s.variant = .v0 → ReachesMap s i ca v →
    exec i s = .next (if ca.getLsbD 15 then { s with prgReg := s.prgReg.set 0 (v &&& 0x1F) } else s)

/-- R247: V1's register, by address. The register layout is one the spec marks as not in its source (log entry 15). -/
def Obligations.V1RegisterMap : Prop :=
  ∀ (s : State) (i : Instr) (ca : Word) (v : Byte), s.variant = .v1 → ReachesMap s i ca v →
    exec i s = .next (if ca.getLsbD 15 then
      mirrored { s with prgReg := s.prgReg.set 0 (v &&& 0x07) } (if v.getLsbD 4 then .singleB else .singleA) else s)

/-- R253, R254, R255, R259: V2's PRG, mirroring and swap-mode registers, by address. The register layout is one the
spec marks as not in its source (log entry 15). -/
def Obligations.V2PrgAndMirrorMap : Prop :=
  ∀ (s : State) (i : Instr) (ca : Word) (v : Byte), s.variant = .v2 → ReachesMap s i ca v →
    (ca.extractLsb' 12 4 = 0x8 → exec i s = .next { s with prgReg := s.prgReg.set 0 (v &&& 0x1F) }) ∧
    (ca.extractLsb' 12 4 = 0x9 → ca.getLsbD 1 = false →
      exec i s = .next (mirrored s (fieldMode (v &&& 3).toNat))) ∧
    (ca.extractLsb' 12 4 = 0x9 → ca.getLsbD 1 = true → exec i s = .next s) ∧
    (ca.extractLsb' 12 4 = 0xA → exec i s = .next { s with prgReg := s.prgReg.set 1 (v &&& 0x1F) })

/-- R256: V2's CHR registers, by address: register `(g - 0xB) * 2 + sel[1]`, half `sel[0]`. The register layout is one
the spec marks as not in its source (log entry 15). -/
def Obligations.V2ChrMap : Prop :=
  ∀ (s : State) (i : Instr) (ca : Word) (v : Byte) (g sel : Nat), s.variant = .v2 → ReachesMap s i ca v →
    ca.toNat / 4096 = g → ca.toNat % 4 = sel → 0xB ≤ g → g ≤ 0xE →
    ∃ t, exec i s = .next t ∧ t = { s with chrReg := t.chrReg } ∧ ∀ k : Fin 8,
      t.chrReg[k] =
        if k.val = (g - 0xB) * 2 + sel / 2 then
          if sel % 2 = 0 then (s.chrReg[k] &&& 0xF0) ||| (v &&& 0x0F)
          else (s.chrReg[k] &&& 0x0F) ||| ((v &&& 0x0F) <<< 4)
        else s.chrReg[k]

/-- R258: V2's IRQ registers, by address. The register layout is one the spec marks as not in its source (log entry
15). -/
def Obligations.V2IrqMap : Prop :=
  ∀ (s : State) (i : Instr) (ca : Word) (v : Byte), s.variant = .v2 → ReachesMap s i ca v →
    ca.extractLsb' 12 4 = 0xF →
    (ca.extractLsb' 0 2 = 0 →
      exec i s = .next { s with irq := { s.irq with latch := (s.irq.latch &&& 0xF0) ||| (v &&& 0x0F) } }) ∧
    (ca.extractLsb' 0 2 = 1 →
      exec i s = .next { s with irq := { s.irq with latch := (s.irq.latch &&& 0x0F) ||| ((v &&& 0x0F) <<< 4) } }) ∧
    (ca.extractLsb' 0 2 = 2 → exec i s = .next (withIrq s (afterControl s.irq v))) ∧
    (ca.extractLsb' 0 2 = 3 → exec i s = .next (withIrq s { s.irq with pending := false }))

/-- R263, R264, R268: V3's PRG registers and its sound registers, by address. The register layout is one the spec
marks as not in its source (log entry 15). -/
def Obligations.V3PrgAndSoundMap : Prop :=
  ∀ (s : State) (i : Instr) (ca : Word) (v : Byte), s.variant = .v3 → ReachesMap s i ca v →
    (ca.extractLsb' 12 4 = 0x8 → exec i s = .next { s with prgReg := s.prgReg.set 0 (v &&& 0x0F) }) ∧
    (ca.extractLsb' 12 4 = 0xC → exec i s = .next { s with prgReg := s.prgReg.set 1 (v &&& 0x1F) }) ∧
    (ca.extractLsb' 12 4 = 0x9 ∨ ca.extractLsb' 12 4 = 0xA ∨
      (ca.extractLsb' 12 4 = 0xB ∧ ca.extractLsb' 0 2 ≠ 3) → exec i s = .next s)

/-- R265, R266: V3's CHR registers and its banking control, by address. The register layout is one the spec marks as
not in its source (log entry 15). -/
def Obligations.V3ChrAndBankingMap : Prop :=
  ∀ (s : State) (i : Instr) (ca : Word) (v : Byte) (g sel : Nat), s.variant = .v3 → ReachesMap s i ca v →
    ca.toNat / 4096 = g → ca.toNat % 4 = sel →
    (g = 0xD ∨ g = 0xE → ∃ t, exec i s = .next t ∧ t = { s with chrReg := t.chrReg } ∧ ∀ k : Fin 8,
      t.chrReg[k] = if k.val = (g - 0xD) * 4 + sel then v else s.chrReg[k]) ∧
    (g = 0xB → sel = 3 →
      exec i s = .next (mirrored { s with style := (v &&& 3).truncate 2 } (fieldMode ((v >>> 2) &&& 3).toNat)))

/-- R269: V3's IRQ registers, by address. The register layout is one the spec marks as not in its source (log entry
15). -/
def Obligations.V3IrqMap : Prop :=
  ∀ (s : State) (i : Instr) (ca : Word) (v : Byte), s.variant = .v3 → ReachesMap s i ca v →
    ca.extractLsb' 12 4 = 0xF →
    (ca.extractLsb' 0 2 = 0 → exec i s = .next { s with irq := { s.irq with latch := v } }) ∧
    (ca.extractLsb' 0 2 = 1 → exec i s = .next (withIrq s (afterControl s.irq v))) ∧
    (ca.extractLsb' 0 2 = 2 → exec i s = .next (withIrq s { s.irq with pending := false })) ∧
    (ca.extractLsb' 0 2 = 3 → exec i s = .next s)

/-- The PRG and mirroring rows of V0, V1, V2 and V3, the masked no-op and the style (R242, R247, R253, R254, R255,
R259, R263, R264, R266): what each register does. Layouts the spec marks as not in its source: log entry 15. -/
def Obligations.PrgAndMirrorRows : Prop :=
  ∀ (s : State) (ca : Word) (v : Byte),
    exec (.v0Prgsel ca v) s = .next { s with prgReg := s.prgReg.set 0 (v &&& 0x1F) } ∧
    exec (.v1PrgselMirror ca v) s = .next
      (mirrored { s with prgReg := s.prgReg.set 0 (v &&& 0x07) } (if v.getLsbD 4 then .singleB else .singleA)) ∧
    exec (.v2Prg0 ca v) s = .next { s with prgReg := s.prgReg.set 0 (v &&& 0x1F) } ∧
    exec (.v2Prg1 ca v) s = .next { s with prgReg := s.prgReg.set 1 (v &&& 0x1F) } ∧
    exec (.v2Mirror ca v) s = .next (mirrored s (fieldMode (v &&& 3).toNat)) ∧
    exec (.v2SwapmodeNop ca v) s = .next s ∧
    exec (.v3Prg0 ca v) s = .next { s with prgReg := s.prgReg.set 0 (v &&& 0x0F) } ∧
    exec (.v3Prg1 ca v) s = .next { s with prgReg := s.prgReg.set 1 (v &&& 0x1F) } ∧
    exec (.v3BankingControl ca v) s = .next
      (mirrored { s with style := (v &&& 3).truncate 2 } (fieldMode ((v >>> 2) &&& 3).toNat))

/-- The CHR rows of V2 (R256): a half of one register, the other half kept. Layouts the spec marks as not in its
source: log entry 15. -/
def Obligations.V2ChrRows : Prop :=
  ∀ (s : State) (r : Fin 8) (ca : Word) (v : Byte),
    exec (v2ChrLowRow r ca v) s =
      .next { s with chrReg := s.chrReg.set r ((s.chrReg[r] &&& 0xF0) ||| (v &&& 0x0F)) } ∧
    exec (v2ChrHighRow r ca v) s =
      .next { s with chrReg := s.chrReg.set r ((s.chrReg[r] &&& 0x0F) ||| ((v &&& 0x0F) <<< 4)) }

/-- The CHR rows of V3 (R265) and its rows without effect (R268, R269). Layouts the spec marks as not in its source:
log entry 15. -/
def Obligations.V3ChrAndNopRows : Prop :=
  ∀ (s : State) (ca : Word) (v : Byte),
    (∀ r : Fin 8, exec (v3ChrRow r ca v) s = .next { s with chrReg := s.chrReg.set r v }) ∧
    ∀ i ∈ [Instr.v3Sound9Nop ca v, .v3SoundANop ca v, .v3SoundB0Nop ca v, .v3SoundB1Nop ca v, .v3SoundB2Nop ca v,
        .v3UnmatchedF3Nop ca v],
      exec i s = .next s

/-- The IRQ rows of V2 and V3 (R258, R269) with the strobes R201, R202, R204. Layouts the spec marks as not in its
source: log entry 15. -/
def Obligations.IrqRows : Prop :=
  ∀ (s : State) (ca : Word) (v : Byte),
    exec (.v2IrqLatchLo ca v) s =
      .next { s with irq := { s.irq with latch := (s.irq.latch &&& 0xF0) ||| (v &&& 0x0F) } } ∧
    exec (.v2IrqLatchHi ca v) s =
      .next { s with irq := { s.irq with latch := (s.irq.latch &&& 0x0F) ||| ((v &&& 0x0F) <<< 4) } } ∧
    exec (.v3IrqLatch ca v) s = .next { s with irq := { s.irq with latch := v } } ∧
    (∀ i ∈ [Instr.v2IrqControl ca v, .v3IrqControl ca v], exec i s = .next (withIrq s (afterControl s.irq v))) ∧
    ∀ i ∈ [Instr.v2IrqAck ca v, .v3IrqAck ca v], exec i s = .next (withIrq s { s.irq with pending := false })

/-! ### The IRQ counter -/

/-- R152, R203: `TICK`. -/
def Obligations.TickCounts : Prop :=
  ∀ s : State,
    (s.variant = .v0 ∨ s.variant = .v1 → exec .tick s = .next s) ∧
    (s.variant = .v2 ∨ s.variant = .v3 →
      (s.irq.enabled = false → exec .tick s = .next s) ∧
      (s.irq.enabled = true → s.irq.cycleMode = false → s.irq.divPhase ≠ Config.irqDivN - 1 →
        exec .tick s = .next { s with irq := { s.irq with divPhase := s.irq.divPhase + 1 } }) ∧
      (s.irq.enabled = true → (s.irq.cycleMode = true ∨ s.irq.divPhase = Config.irqDivN - 1) →
        exec .tick s = .next (withIrq s
          { s.irq with
            divPhase := if s.irq.cycleMode then s.irq.divPhase else 0
            counter := if s.irq.counter = 0 then s.irq.latch else s.irq.counter - 1
            pending := if s.irq.counter = 0 then true else s.irq.pending })))

/-- R205: the line is a level equal to `irq.pending`; it rises only in a `TICK` that underflows, and falls only in an
acknowledge, a reloading control write and `INIT`. -/
def Obligations.LineMovesOnlyByRule : Prop :=
  ∀ (i : Instr) (s t : State), exec i s = .next t →
    t.irqLine = t.irq.pending ∧
    (s.irqLine = false → t.irqLine = true → i = .tick ∧ s.irq.enabled = true ∧ s.irq.counter = 0 ∧
      (s.irq.cycleMode = true ∨ s.irq.divPhase = Config.irqDivN - 1)) ∧
    (s.irqLine = true → t.irqLine = false →
      i = .init ∨ ∃ ca v, Performs s i (.v2IrqAck ca v) ∨ Performs s i (.v3IrqAck ca v) ∨
        (v.getLsbD 1 = true ∧ (Performs s i (.v2IrqControl ca v) ∨ Performs s i (.v3IrqControl ca v))))

/-- R206: after a reload with latch `L` in cycle mode the line rises at tick `L + 1` and not before, underflows come
every `L + 1` ticks, and an acknowledge in between does not move them. -/
def Obligations.CycleModeCadence : Prop :=
  (∀ (s : State) (ca : Word) (v : Byte) (i : Instr), (s.variant = .v2 ∧ i = .v2IrqControl ca v) ∨
      (s.variant = .v3 ∧ i = .v3IrqControl ca v) → v.getLsbD 1 = true → v.getLsbD 2 = true →
    ∃ t, exec i s = .next t ∧ (∀ k ≤ s.irq.latch.toNat, ∃ u, ticks k t = .next u ∧ u.irqLine = false) ∧
      ∃ u, ticks (s.irq.latch.toNat + 1) t = .next u ∧ u.irqLine = true) ∧
  ∀ s : State, s.variant = .v2 ∨ s.variant = .v3 → s.irq.enabled = true → s.irq.cycleMode = true →
    (∀ k ≤ s.irq.counter.toNat, ∃ u, ticks k s = .next u ∧ u.irq.counter.toNat = s.irq.counter.toNat - k ∧
      u.irq = { s.irq with counter := u.irq.counter } ∧
      ∀ i ca v, (i = .v2IrqAck ca v ∨ i = .v3IrqAck ca v) →
        ∃ u', exec i u = .next u' ∧ u'.irq = { u.irq with pending := false }) ∧
    ∃ u, ticks (s.irq.counter.toNat + 1) s = .next u ∧
      u.irq = { s.irq with counter := s.irq.latch, pending := true } ∧ u.variant = s.variant

/-- R207: after a reload with latch `L` in scanline mode the first underflow is at tick `(L + 1) * N`, and underflows
come every `(L + 1) * N` ticks. -/
def Obligations.ScanlineModeCadence : Prop :=
  (∀ (s : State) (ca : Word) (v : Byte) (i : Instr), (s.variant = .v2 ∧ i = .v2IrqControl ca v) ∨
      (s.variant = .v3 ∧ i = .v3IrqControl ca v) → v.getLsbD 1 = true → v.getLsbD 2 = false →
    ∃ t, exec i s = .next t ∧
      (∀ k < (s.irq.latch.toNat + 1) * Config.irqDivN, ∃ u, ticks k t = .next u ∧ u.irqLine = false) ∧
      ∃ u, ticks ((s.irq.latch.toNat + 1) * Config.irqDivN) t = .next u ∧ u.irqLine = true) ∧
  ∀ s : State, s.variant = .v2 ∨ s.variant = .v3 → s.irq.enabled = true → s.irq.cycleMode = false →
    s.irq.divPhase = 0 →
    (∀ k < (s.irq.counter.toNat + 1) * Config.irqDivN, ∃ u, ticks k s = .next u ∧ u.irq.pending = s.irq.pending) ∧
    ∃ u, ticks ((s.irq.counter.toNat + 1) * Config.irqDivN) s = .next u ∧
      u.irq = { s.irq with counter := s.irq.latch, pending := true } ∧ u.variant = s.variant

/-! ### The mirroring selector -/

/-- R280: the output `nt_mode`. -/
def Obligations.EffectiveMirroring : Prop :=
  ∀ s : State, (s.mirror = .noOverride → s.ntMode = s.rom.declMirror) ∧ ∀ m, s.mirror = .mode m → s.ntMode = m

/-- R281: the output `nt_page`. The decode is one the spec marks as not in its source (log entry 15). -/
def Obligations.NametablePages : Prop :=
  ∀ (s : State) (a11 a10 : Bool), (s.ntPage a11 a10).toNat =
    match s.ntMode with
    | .horizontal => a11.toNat
    | .vertical => a10.toNat
    | .singleA => 0
    | .singleB => 1
    | .fourScreen => 2 * a11.toNat + a10.toNat

/-- R282: `mirror` is written by V1's register, V2's mirroring register and V3's banking control, each of which stores
one of four modes and emits the effective mode whether or not it changed; by `INIT`; and by nothing else. -/
def Obligations.MirrorWritersOnly : Prop :=
  (∀ (i : Instr) (s t : State), exec i s = .next t → t.mirror ≠ s.mirror →
    i = .init ∧ t.mirror = .noOverride ∨
      ∃ ca v, Performs s i (.v1PrgselMirror ca v) ∨ Performs s i (.v2Mirror ca v) ∨
        Performs s i (.v3BankingControl ca v)) ∧
  ∀ (s : State) (ca : Word) (v : Byte) (i : Instr),
    i ∈ [Instr.v1PrgselMirror ca v, .v2Mirror ca v, .v3BankingControl ca v] →
    ∃ t m, exec i s = .next t ∧ t.mirror = .mode m ∧ m ≠ .fourScreen ∧ t.events = s.events ++ [.ntMode t.effMirror]

/-! ### Ordering -/

/-- R72 (1), R75: with the CPU table `APPLY` installs in the variant in force, after a write `v` to any register address
`r` the very next `RD` of any swappable window reads with the PRG registers as that write leaves them; with the CHR-ROM
routes `APPLY` installs, so does the very next `GRD` with the CHR registers and the style; and no slot changes. Windows
and register layouts are ones the spec marks as not in its source (log entry 15). -/
def Obligations.BankWriteSeenByNextRead : Prop :=
  ∀ (s : State) (r : Word) (v : Byte), s.cpuSlots = cpuTableOf s.variant → 0x8000 ≤ r.toNat →
    ∃ t, exec (.wr r v) s = .next t ∧ t.cpuSlots = s.cpuSlots ∧ t.gfxSlots = s.gfxSlots ∧
      (∀ w ∈ prgWin s.variant, ∀ k : Fin 2, w.kind = .swap k → ∀ a : Word, InWindow w a → s.rom.prg.length ≠ 0 →
        ∃ b, exec (.rd a) t = .next { t with result := .byte b } ∧
          s.rom.prg.byteAt (((a.toNat - w.base) +
            (prgWritten s.variant (swizzle s.wiring r) v k s.prgReg[k]).toNat % max 1 (s.rom.prg.length / w.size) * w.size)
              % s.rom.prg.length) = some b) ∧
      (s.gfxSlots = gfxTableOf false → s.rom.chr.length ≠ 0 → ∀ g : GfxAddr,
        ∃ b, exec (.grd g) t = .next { t with result := .byte b } ∧
          ChrByte
            { s with
              chrReg := Vector.ofFn fun k => chrWritten s.variant (swizzle s.wiring r) v k s.chrReg[k]
              style := styleWritten s.variant (swizzle s.wiring r) v s.style }
            (g.toNat / 1024) (gfxWord g) b)

/-! ### Invariants and reset -/

/-- R43, R320: power-on, and what the bus does in it. The model's own fields are log entries 1 to 6. -/
def Obligations.PowerOn : Prop :=
  (∀ a, State.reset.cpuSlots.get a = Slot.default ∧ State.reset.gfxSlots.get a = Slot.default) ∧
  State.reset.rom = RomImage.empty ∧ State.reset.pcbClass = .fixswap ∧
  (∀ k : Fin 2, State.reset.prgReg[k] = 0) ∧ (∀ k : Fin 8, State.reset.chrReg[k] = 0) ∧
  State.reset.mirror = .noOverride ∧ State.reset.style = 0 ∧ State.reset.fixedOffset = 0 ∧
  State.reset.prgSizeOverride = 0 ∧ State.reset.irq = Irq.reset ∧ State.reset.irqLine = false ∧
  (∀ off, State.reset.chrRamByte off = Config.chrRamInit State.reset.chrRamDraw off) ∧
  (∀ i x a, ReadAccess State.reset i x a → exec i State.reset = .next (openBusAnswer State.reset)) ∧
  (∀ i x a v, WriteAccess State.reset i x a v → exec i State.reset = .next State.reset) ∧
  exec .tick State.reset = .next State.reset

/-- The invariant at power-on. -/
def Obligations.ResetMeetsTheInvariant : Prop :=
  State.reset.Inv ∧ State.reset.Canonical ∧ State.reset.VariantInv

/-- Every step keeps the invariant of the mapper and the counter. -/
def Obligations.StepKeepsTheInvariant : Prop :=
  ∀ s t : State, s.Inv → step s = .next t → t.Inv

/-- Every step keeps the canonical forms of the slot tables and the byte stores. The forms are the model's (log
entries 6, 9 and 10). -/
def Obligations.StepKeepsCanonicalForms : Prop :=
  ∀ s t : State, s.Canonical → step s = .next t → t.Canonical

/-- Every step keeps what the variant in force does not use at its power-on value (R21, R22, R26, R37, R243), and its
PRG registers within the bits it implements (R242, R247, R253, R255, R263, R264, of which the spec marks R247, R263
and R264 as not in its source: log entry 15). -/
def Obligations.StepKeepsUnusedRegisters : Prop :=
  ∀ s t : State, s.VariantInv → step s = .next t → t.VariantInv

/-- R42: after any sequence of operations from power-on, whatever images are presented with them. -/
def Obligations.EveryRunFromPowerOn : Prop :=
  ∀ (ls : List TraceLine) (n : Nat) (s : State),
    Host.Core.run Sys2Proof.core n { State.reset with trace := ls } = .next s → R42 s

/-- The invariant is what R42 says, in every state that meets it. -/
def Obligations.InvariantGivesR42 : Prop :=
  ∀ s : State, s.Inv → R42 s
end

