-- ==== Sys2Proof/Laws/Decode.lean ====
section
/-! SUPPORT. The fields of an encoded command word, and the operands that survive being encoded. -/

namespace Sys2Proof

section fields

variable (op : BitVec 8) (addr param : Word) (data owner : Byte)

@[simp] theorem cmdWord_op : CmdWord.op (cmdWord op addr param data owner) = op := by
  ext n hn; simp [CmdWord.op, cmdWord]; grind

@[simp] theorem cmdWord_addr : CmdWord.addr (cmdWord op addr param data owner) = addr := by
  ext n hn; simp [CmdWord.addr, cmdWord]; grind

@[simp] theorem cmdWord_param : CmdWord.param (cmdWord op addr param data owner) = param := by
  ext n hn; simp [CmdWord.param, cmdWord]; grind

@[simp] theorem cmdWord_data : CmdWord.data (cmdWord op addr param data owner) = data := by
  ext n hn; simp [CmdWord.data, cmdWord]; grind

@[simp] theorem cmdWord_owner : CmdWord.owner (cmdWord op addr param data owner) = owner := by
  ext n hn; simp [CmdWord.owner, cmdWord]; grind

@[simp] theorem cmdWord_rsv : CmdWord.rsv (cmdWord op addr param data owner) = 0 := by
  ext n hn; simp [CmdWord.rsv, cmdWord]; grind

/-- A command word is decoded from the fields it was made of. -/
theorem decodeCmd_cmdWord :
    decodeCmd (cmdWord op addr param data owner) = decodeOp op addr param data owner := by
  simp only [decodeCmd, cmdWord_op, cmdWord_addr, cmdWord_param, cmdWord_data, cmdWord_owner, cmdWord_rsv, if_true]

end fields

theorem gfxAddrOf_gfxWord (g : GfxAddr) : gfxAddrOf (gfxWord g) = some g := by
  unfold gfxAddrOf gfxWord
  rw [if_pos]
  · congr 1; ext n hn; simp [hn]; grind
  · ext n hn; simp

theorem gfxWord_toNat (g : GfxAddr) : (gfxWord g).toNat = g.toNat := by
  unfold gfxWord; simp; omega

theorem readKindOfCode_readKindCode (k : ReadKind) : readKindOfCode (readKindCode k) = some k := by cases k <;> rfl

theorem writeKindOfCode_writeKindCode (k : WriteKind) : writeKindOfCode (writeKindCode k) = some k := by cases k <;> rfl

/-- Group and selector of a canonical address as numbers (30_encoding.md R100). -/
theorem regGroup_eq (ca : Word) : regGroup ca = BitVec.ofNat 4 (ca.toNat / 4096) := by
  apply BitVec.eq_of_toNat_eq; simp [regGroup, Nat.shiftRight_eq_div_pow]

theorem regSel_eq (ca : Word) : regSel ca = BitVec.ofNat 2 (ca.toNat % 4) := by
  apply BitVec.eq_of_toNat_eq; simp [regSel]

end Sys2Proof
end

