-- ==== Sys2Proof/Laws/Memory.lean ====
section
/-! SUPPORT. Byte stores: a read after a write, and that every operation keeps the canonical form. -/

namespace Sys2Proof.Machine

variable {m : Memory} {a b lo size : Nat} {v : Byte}

theorem Memory.find_insert : Memory.find (Memory.insert m a v) b = if b = a then some v else Memory.find m b := by
  induction m with
  | nil => simp [Memory.insert, Memory.find]
  | cons c m ih =>
    obtain ⟨n, x⟩ := c
    unfold Memory.insert
    split
    · simp only [Memory.find]
    · split <;> simp only [Memory.find, ih] <;> grind

theorem Memory.wfFrom_insert (hlo : lo ≤ a) (ha : a < size) (hm : Memory.wfFrom size lo m = true) :
    Memory.wfFrom size lo (Memory.insert m a v) = true := by
  induction m generalizing lo with
  | nil => simp [Memory.insert, Memory.wfFrom, hlo, ha]
  | cons c m ih =>
    obtain ⟨n, x⟩ := c
    simp only [Memory.wfFrom, Bool.and_eq_true, decide_eq_true_eq] at hm
    unfold Memory.insert
    split
    · simp only [Memory.wfFrom, Bool.and_eq_true, decide_eq_true_eq]
      exact ⟨⟨hlo, ha⟩, ⟨by omega, hm.1.2⟩, hm.2⟩
    · split
      · subst a
        simp only [Memory.wfFrom, Bool.and_eq_true, decide_eq_true_eq]
        exact hm
      · simp only [Memory.wfFrom, Bool.and_eq_true, decide_eq_true_eq]
        exact ⟨hm.1, ih (by omega) hm.2⟩

/-- A write inside the store keeps its canonical form. -/
theorem Memory.wf_insert (ha : a < size) (hm : Memory.wf size m = true) :
    Memory.wf size (Memory.insert m a v) = true :=
  Memory.wfFrom_insert (Nat.zero_le _) ha hm

@[simp] theorem Memory.wf_nil : Memory.wf size [] = true := rfl

/-! ### CHR-RAM -/

/-- A CHR-RAM byte reads as last written, and every other as before. -/
theorem State.chrRamByte_writeChrRam (s : State) :
    (s.writeChrRam a v).chrRamByte b = if b = a then v else s.chrRamByte b := by
  unfold State.writeChrRam State.chrRamByte
  rw [Memory.find_insert]
  split <;> rfl

/-! ### Byte sequences -/

theorem ByteSeq.byteAt_lt {q : ByteSeq} (h : a < q.length) : ∃ x, q.byteAt a = some x :=
  ⟨_, if_pos h⟩

theorem ByteSeq.byteAt_none {q : ByteSeq} : q.byteAt a = none ↔ q.length ≤ a := by
  unfold ByteSeq.byteAt; split <;> simp_all

theorem ByteSeq.find_cellsFrom (bs : List Byte) (n k : Nat) :
    (Memory.find (ByteSeq.cellsFrom n bs) (n + k)).getD 0 = bs[k]?.getD 0 := by
  have below : ∀ (bs : List Byte) (n j : Nat), j < n → Memory.find (ByteSeq.cellsFrom n bs) j = none := by
    intro bs
    induction bs with
    | nil => intros; rfl
    | cons b bs ih =>
      intro n j hj
      unfold ByteSeq.cellsFrom
      split
      · exact ih _ _ (by omega)
      · rw [Memory.find, if_neg (by omega)]; exact ih _ _ (by omega)
  induction bs generalizing n k with
  | nil => rfl
  | cons b bs ih =>
    unfold ByteSeq.cellsFrom
    cases k with
    | zero =>
      split
      · rw [below bs (n + 1) (n + 0) (by omega)]; simp_all
      · rw [Memory.find, if_pos (by omega)]; rfl
    | succ k =>
      have := ih (n + 1) k
      rw [Nat.add_assoc, Nat.add_comm 1 k] at this
      split
      · exact this
      · rw [Memory.find, if_neg (by omega)]; exact this

/-- Holding a sequence as a length and its bytes that are not zero loses nothing: every byte of the list it was made
of is there, at its offset, and there is none beyond. -/
theorem ByteSeq.byteAt_ofBytes (bs : List Byte) (k : Nat) : (ByteSeq.ofBytes bs).byteAt k = bs[k]? := by
  unfold ByteSeq.ofBytes ByteSeq.byteAt
  have := ByteSeq.find_cellsFrom bs 0 k
  rw [Nat.zero_add] at this
  dsimp only
  split
  · rw [this]; simp_all
  · simp_all

theorem ByteSeq.wf_ofBytes (bs : List Byte) : (ByteSeq.ofBytes bs).wf = true := by
  have key : ∀ (bs : List Byte) (n : Nat), Memory.wfFrom (n + bs.length) n (ByteSeq.cellsFrom n bs) = true ∧
      ((ByteSeq.cellsFrom n bs).all fun c => c.2 != 0) = true := by
    intro bs
    induction bs with
    | nil => intro n; exact ⟨rfl, rfl⟩
    | cons b bs ih =>
      intro n
      have h := ih (n + 1)
      rw [Nat.add_assoc, Nat.add_comm 1 bs.length] at h
      have mono : ∀ (m : Memory) (i j size : Nat), i ≤ j → Memory.wfFrom size j m = true →
          Memory.wfFrom size i m = true := by
        intro m i j size hij hm
        cases m with
        | nil => rfl
        | cons c m => simp only [Memory.wfFrom, Bool.and_eq_true, decide_eq_true_eq] at *; grind
      unfold ByteSeq.cellsFrom
      split
      · exact ⟨mono _ _ _ _ (by omega) h.1, h.2⟩
      · refine ⟨?_, ?_⟩
        · simp only [Memory.wfFrom, Bool.and_eq_true, decide_eq_true_eq, List.length_cons]
          exact ⟨⟨le_refl _, by omega⟩, h.1⟩
        · rw [List.all_cons, h.2, Bool.and_true]; simpa using ‹¬b = 0›
  have := key bs 0
  rw [Nat.zero_add] at this
  simp only [ByteSeq.wf, ByteSeq.ofBytes, Memory.wf, Bool.and_eq_true]
  exact this

@[simp] theorem ByteSeq.wf_empty : ByteSeq.empty.wf = true := rfl

@[simp] theorem RomImage.wf_empty : RomImage.empty.wf = true := rfl

end Sys2Proof.Machine
end

