-- ==== Sys2Proof/Laws/State.lean ====
section
/-! SUPPORT. What each named update of State does to each field: one lemma per field per update. -/

namespace Sys2Proof.Machine

variable (s : State)

/-! ### writeChrRam -/

@[simp] theorem writeChrRam_cpuSlots (off : Nat) (v : Byte) : (s.writeChrRam off v).cpuSlots = s.cpuSlots := rfl
@[simp] theorem writeChrRam_gfxSlots (off : Nat) (v : Byte) : (s.writeChrRam off v).gfxSlots = s.gfxSlots := rfl
@[simp] theorem writeChrRam_rom (off : Nat) (v : Byte) : (s.writeChrRam off v).rom = s.rom := rfl
@[simp] theorem writeChrRam_chrRam (off : Nat) (v : Byte) : (s.writeChrRam off v).chrRam = Memory.insert s.chrRam off v := rfl
@[simp] theorem writeChrRam_pcbClass (off : Nat) (v : Byte) : (s.writeChrRam off v).pcbClass = s.pcbClass := rfl
@[simp] theorem writeChrRam_prgReg (off : Nat) (v : Byte) : (s.writeChrRam off v).prgReg = s.prgReg := rfl
@[simp] theorem writeChrRam_chrReg (off : Nat) (v : Byte) : (s.writeChrRam off v).chrReg = s.chrReg := rfl
@[simp] theorem writeChrRam_mirror (off : Nat) (v : Byte) : (s.writeChrRam off v).mirror = s.mirror := rfl
@[simp] theorem writeChrRam_style (off : Nat) (v : Byte) : (s.writeChrRam off v).style = s.style := rfl
@[simp] theorem writeChrRam_fixedOffset (off : Nat) (v : Byte) : (s.writeChrRam off v).fixedOffset = s.fixedOffset := rfl
@[simp] theorem writeChrRam_prgSizeOverride (off : Nat) (v : Byte) : (s.writeChrRam off v).prgSizeOverride = s.prgSizeOverride := rfl
@[simp] theorem writeChrRam_irq (off : Nat) (v : Byte) : (s.writeChrRam off v).irq = s.irq := rfl
@[simp] theorem writeChrRam_trace (off : Nat) (v : Byte) : (s.writeChrRam off v).trace = s.trace := rfl
@[simp] theorem writeChrRam_imageIn (off : Nat) (v : Byte) : (s.writeChrRam off v).imageIn = s.imageIn := rfl
@[simp] theorem writeChrRam_draws (off : Nat) (v : Byte) : (s.writeChrRam off v).draws = s.draws := rfl
@[simp] theorem writeChrRam_chrRamDraw (off : Nat) (v : Byte) : (s.writeChrRam off v).chrRamDraw = s.chrRamDraw := rfl
@[simp] theorem writeChrRam_result (off : Nat) (v : Byte) : (s.writeChrRam off v).result = s.result := rfl
@[simp] theorem writeChrRam_events (off : Nat) (v : Byte) : (s.writeChrRam off v).events = s.events := rfl

/-! ### setPrgReg -/

@[simp] theorem setPrgReg_cpuSlots (i : Fin 2) (v : Byte) : (s.setPrgReg i v).cpuSlots = s.cpuSlots := rfl
@[simp] theorem setPrgReg_gfxSlots (i : Fin 2) (v : Byte) : (s.setPrgReg i v).gfxSlots = s.gfxSlots := rfl
@[simp] theorem setPrgReg_rom (i : Fin 2) (v : Byte) : (s.setPrgReg i v).rom = s.rom := rfl
@[simp] theorem setPrgReg_chrRam (i : Fin 2) (v : Byte) : (s.setPrgReg i v).chrRam = s.chrRam := rfl
@[simp] theorem setPrgReg_pcbClass (i : Fin 2) (v : Byte) : (s.setPrgReg i v).pcbClass = s.pcbClass := rfl
@[simp] theorem setPrgReg_prgReg (i : Fin 2) (v : Byte) : (s.setPrgReg i v).prgReg = s.prgReg.set i v := rfl
@[simp] theorem setPrgReg_chrReg (i : Fin 2) (v : Byte) : (s.setPrgReg i v).chrReg = s.chrReg := rfl
@[simp] theorem setPrgReg_mirror (i : Fin 2) (v : Byte) : (s.setPrgReg i v).mirror = s.mirror := rfl
@[simp] theorem setPrgReg_style (i : Fin 2) (v : Byte) : (s.setPrgReg i v).style = s.style := rfl
@[simp] theorem setPrgReg_fixedOffset (i : Fin 2) (v : Byte) : (s.setPrgReg i v).fixedOffset = s.fixedOffset := rfl
@[simp] theorem setPrgReg_prgSizeOverride (i : Fin 2) (v : Byte) : (s.setPrgReg i v).prgSizeOverride = s.prgSizeOverride := rfl
@[simp] theorem setPrgReg_irq (i : Fin 2) (v : Byte) : (s.setPrgReg i v).irq = s.irq := rfl
@[simp] theorem setPrgReg_trace (i : Fin 2) (v : Byte) : (s.setPrgReg i v).trace = s.trace := rfl
@[simp] theorem setPrgReg_imageIn (i : Fin 2) (v : Byte) : (s.setPrgReg i v).imageIn = s.imageIn := rfl
@[simp] theorem setPrgReg_draws (i : Fin 2) (v : Byte) : (s.setPrgReg i v).draws = s.draws := rfl
@[simp] theorem setPrgReg_chrRamDraw (i : Fin 2) (v : Byte) : (s.setPrgReg i v).chrRamDraw = s.chrRamDraw := rfl
@[simp] theorem setPrgReg_result (i : Fin 2) (v : Byte) : (s.setPrgReg i v).result = s.result := rfl
@[simp] theorem setPrgReg_events (i : Fin 2) (v : Byte) : (s.setPrgReg i v).events = s.events := rfl

/-! ### setChrReg -/

@[simp] theorem setChrReg_cpuSlots (k : Fin 8) (v : Byte) : (s.setChrReg k v).cpuSlots = s.cpuSlots := rfl
@[simp] theorem setChrReg_gfxSlots (k : Fin 8) (v : Byte) : (s.setChrReg k v).gfxSlots = s.gfxSlots := rfl
@[simp] theorem setChrReg_rom (k : Fin 8) (v : Byte) : (s.setChrReg k v).rom = s.rom := rfl
@[simp] theorem setChrReg_chrRam (k : Fin 8) (v : Byte) : (s.setChrReg k v).chrRam = s.chrRam := rfl
@[simp] theorem setChrReg_pcbClass (k : Fin 8) (v : Byte) : (s.setChrReg k v).pcbClass = s.pcbClass := rfl
@[simp] theorem setChrReg_prgReg (k : Fin 8) (v : Byte) : (s.setChrReg k v).prgReg = s.prgReg := rfl
@[simp] theorem setChrReg_chrReg (k : Fin 8) (v : Byte) : (s.setChrReg k v).chrReg = s.chrReg.set k v := rfl
@[simp] theorem setChrReg_mirror (k : Fin 8) (v : Byte) : (s.setChrReg k v).mirror = s.mirror := rfl
@[simp] theorem setChrReg_style (k : Fin 8) (v : Byte) : (s.setChrReg k v).style = s.style := rfl
@[simp] theorem setChrReg_fixedOffset (k : Fin 8) (v : Byte) : (s.setChrReg k v).fixedOffset = s.fixedOffset := rfl
@[simp] theorem setChrReg_prgSizeOverride (k : Fin 8) (v : Byte) : (s.setChrReg k v).prgSizeOverride = s.prgSizeOverride := rfl
@[simp] theorem setChrReg_irq (k : Fin 8) (v : Byte) : (s.setChrReg k v).irq = s.irq := rfl
@[simp] theorem setChrReg_trace (k : Fin 8) (v : Byte) : (s.setChrReg k v).trace = s.trace := rfl
@[simp] theorem setChrReg_imageIn (k : Fin 8) (v : Byte) : (s.setChrReg k v).imageIn = s.imageIn := rfl
@[simp] theorem setChrReg_draws (k : Fin 8) (v : Byte) : (s.setChrReg k v).draws = s.draws := rfl
@[simp] theorem setChrReg_chrRamDraw (k : Fin 8) (v : Byte) : (s.setChrReg k v).chrRamDraw = s.chrRamDraw := rfl
@[simp] theorem setChrReg_result (k : Fin 8) (v : Byte) : (s.setChrReg k v).result = s.result := rfl
@[simp] theorem setChrReg_events (k : Fin 8) (v : Byte) : (s.setChrReg k v).events = s.events := rfl

/-! ### setStyle -/

@[simp] theorem setStyle_cpuSlots (v : BitVec 2) : (s.setStyle v).cpuSlots = s.cpuSlots := rfl
@[simp] theorem setStyle_gfxSlots (v : BitVec 2) : (s.setStyle v).gfxSlots = s.gfxSlots := rfl
@[simp] theorem setStyle_rom (v : BitVec 2) : (s.setStyle v).rom = s.rom := rfl
@[simp] theorem setStyle_chrRam (v : BitVec 2) : (s.setStyle v).chrRam = s.chrRam := rfl
@[simp] theorem setStyle_pcbClass (v : BitVec 2) : (s.setStyle v).pcbClass = s.pcbClass := rfl
@[simp] theorem setStyle_prgReg (v : BitVec 2) : (s.setStyle v).prgReg = s.prgReg := rfl
@[simp] theorem setStyle_chrReg (v : BitVec 2) : (s.setStyle v).chrReg = s.chrReg := rfl
@[simp] theorem setStyle_mirror (v : BitVec 2) : (s.setStyle v).mirror = s.mirror := rfl
@[simp] theorem setStyle_style (v : BitVec 2) : (s.setStyle v).style = v := rfl
@[simp] theorem setStyle_fixedOffset (v : BitVec 2) : (s.setStyle v).fixedOffset = s.fixedOffset := rfl
@[simp] theorem setStyle_prgSizeOverride (v : BitVec 2) : (s.setStyle v).prgSizeOverride = s.prgSizeOverride := rfl
@[simp] theorem setStyle_irq (v : BitVec 2) : (s.setStyle v).irq = s.irq := rfl
@[simp] theorem setStyle_trace (v : BitVec 2) : (s.setStyle v).trace = s.trace := rfl
@[simp] theorem setStyle_imageIn (v : BitVec 2) : (s.setStyle v).imageIn = s.imageIn := rfl
@[simp] theorem setStyle_draws (v : BitVec 2) : (s.setStyle v).draws = s.draws := rfl
@[simp] theorem setStyle_chrRamDraw (v : BitVec 2) : (s.setStyle v).chrRamDraw = s.chrRamDraw := rfl
@[simp] theorem setStyle_result (v : BitVec 2) : (s.setStyle v).result = s.result := rfl
@[simp] theorem setStyle_events (v : BitVec 2) : (s.setStyle v).events = s.events := rfl

/-! ### modifyCpu -/

@[simp] theorem modifyCpu_cpuSlots (base size : Nat) (g : Slot → Slot) : (s.modifyCpu base size g).cpuSlots = s.cpuSlots.modify base size g := rfl
@[simp] theorem modifyCpu_gfxSlots (base size : Nat) (g : Slot → Slot) : (s.modifyCpu base size g).gfxSlots = s.gfxSlots := rfl
@[simp] theorem modifyCpu_rom (base size : Nat) (g : Slot → Slot) : (s.modifyCpu base size g).rom = s.rom := rfl
@[simp] theorem modifyCpu_chrRam (base size : Nat) (g : Slot → Slot) : (s.modifyCpu base size g).chrRam = s.chrRam := rfl
@[simp] theorem modifyCpu_pcbClass (base size : Nat) (g : Slot → Slot) : (s.modifyCpu base size g).pcbClass = s.pcbClass := rfl
@[simp] theorem modifyCpu_prgReg (base size : Nat) (g : Slot → Slot) : (s.modifyCpu base size g).prgReg = s.prgReg := rfl
@[simp] theorem modifyCpu_chrReg (base size : Nat) (g : Slot → Slot) : (s.modifyCpu base size g).chrReg = s.chrReg := rfl
@[simp] theorem modifyCpu_mirror (base size : Nat) (g : Slot → Slot) : (s.modifyCpu base size g).mirror = s.mirror := rfl
@[simp] theorem modifyCpu_style (base size : Nat) (g : Slot → Slot) : (s.modifyCpu base size g).style = s.style := rfl
@[simp] theorem modifyCpu_fixedOffset (base size : Nat) (g : Slot → Slot) : (s.modifyCpu base size g).fixedOffset = s.fixedOffset := rfl
@[simp] theorem modifyCpu_prgSizeOverride (base size : Nat) (g : Slot → Slot) : (s.modifyCpu base size g).prgSizeOverride = s.prgSizeOverride := rfl
@[simp] theorem modifyCpu_irq (base size : Nat) (g : Slot → Slot) : (s.modifyCpu base size g).irq = s.irq := rfl
@[simp] theorem modifyCpu_trace (base size : Nat) (g : Slot → Slot) : (s.modifyCpu base size g).trace = s.trace := rfl
@[simp] theorem modifyCpu_imageIn (base size : Nat) (g : Slot → Slot) : (s.modifyCpu base size g).imageIn = s.imageIn := rfl
@[simp] theorem modifyCpu_draws (base size : Nat) (g : Slot → Slot) : (s.modifyCpu base size g).draws = s.draws := rfl
@[simp] theorem modifyCpu_chrRamDraw (base size : Nat) (g : Slot → Slot) : (s.modifyCpu base size g).chrRamDraw = s.chrRamDraw := rfl
@[simp] theorem modifyCpu_result (base size : Nat) (g : Slot → Slot) : (s.modifyCpu base size g).result = s.result := rfl
@[simp] theorem modifyCpu_events (base size : Nat) (g : Slot → Slot) : (s.modifyCpu base size g).events = s.events := rfl

/-! ### modifyGfx -/

@[simp] theorem modifyGfx_cpuSlots (base size : Nat) (g : Slot → Slot) : (s.modifyGfx base size g).cpuSlots = s.cpuSlots := rfl
@[simp] theorem modifyGfx_gfxSlots (base size : Nat) (g : Slot → Slot) : (s.modifyGfx base size g).gfxSlots = s.gfxSlots.modify base size g := rfl
@[simp] theorem modifyGfx_rom (base size : Nat) (g : Slot → Slot) : (s.modifyGfx base size g).rom = s.rom := rfl
@[simp] theorem modifyGfx_chrRam (base size : Nat) (g : Slot → Slot) : (s.modifyGfx base size g).chrRam = s.chrRam := rfl
@[simp] theorem modifyGfx_pcbClass (base size : Nat) (g : Slot → Slot) : (s.modifyGfx base size g).pcbClass = s.pcbClass := rfl
@[simp] theorem modifyGfx_prgReg (base size : Nat) (g : Slot → Slot) : (s.modifyGfx base size g).prgReg = s.prgReg := rfl
@[simp] theorem modifyGfx_chrReg (base size : Nat) (g : Slot → Slot) : (s.modifyGfx base size g).chrReg = s.chrReg := rfl
@[simp] theorem modifyGfx_mirror (base size : Nat) (g : Slot → Slot) : (s.modifyGfx base size g).mirror = s.mirror := rfl
@[simp] theorem modifyGfx_style (base size : Nat) (g : Slot → Slot) : (s.modifyGfx base size g).style = s.style := rfl
@[simp] theorem modifyGfx_fixedOffset (base size : Nat) (g : Slot → Slot) : (s.modifyGfx base size g).fixedOffset = s.fixedOffset := rfl
@[simp] theorem modifyGfx_prgSizeOverride (base size : Nat) (g : Slot → Slot) : (s.modifyGfx base size g).prgSizeOverride = s.prgSizeOverride := rfl
@[simp] theorem modifyGfx_irq (base size : Nat) (g : Slot → Slot) : (s.modifyGfx base size g).irq = s.irq := rfl
@[simp] theorem modifyGfx_trace (base size : Nat) (g : Slot → Slot) : (s.modifyGfx base size g).trace = s.trace := rfl
@[simp] theorem modifyGfx_imageIn (base size : Nat) (g : Slot → Slot) : (s.modifyGfx base size g).imageIn = s.imageIn := rfl
@[simp] theorem modifyGfx_draws (base size : Nat) (g : Slot → Slot) : (s.modifyGfx base size g).draws = s.draws := rfl
@[simp] theorem modifyGfx_chrRamDraw (base size : Nat) (g : Slot → Slot) : (s.modifyGfx base size g).chrRamDraw = s.chrRamDraw := rfl
@[simp] theorem modifyGfx_result (base size : Nat) (g : Slot → Slot) : (s.modifyGfx base size g).result = s.result := rfl
@[simp] theorem modifyGfx_events (base size : Nat) (g : Slot → Slot) : (s.modifyGfx base size g).events = s.events := rfl

/-! ### answer -/

@[simp] theorem answer_cpuSlots (r : Result) : (s.answer r).cpuSlots = s.cpuSlots := rfl
@[simp] theorem answer_gfxSlots (r : Result) : (s.answer r).gfxSlots = s.gfxSlots := rfl
@[simp] theorem answer_rom (r : Result) : (s.answer r).rom = s.rom := rfl
@[simp] theorem answer_chrRam (r : Result) : (s.answer r).chrRam = s.chrRam := rfl
@[simp] theorem answer_pcbClass (r : Result) : (s.answer r).pcbClass = s.pcbClass := rfl
@[simp] theorem answer_prgReg (r : Result) : (s.answer r).prgReg = s.prgReg := rfl
@[simp] theorem answer_chrReg (r : Result) : (s.answer r).chrReg = s.chrReg := rfl
@[simp] theorem answer_mirror (r : Result) : (s.answer r).mirror = s.mirror := rfl
@[simp] theorem answer_style (r : Result) : (s.answer r).style = s.style := rfl
@[simp] theorem answer_fixedOffset (r : Result) : (s.answer r).fixedOffset = s.fixedOffset := rfl
@[simp] theorem answer_prgSizeOverride (r : Result) : (s.answer r).prgSizeOverride = s.prgSizeOverride := rfl
@[simp] theorem answer_irq (r : Result) : (s.answer r).irq = s.irq := rfl
@[simp] theorem answer_trace (r : Result) : (s.answer r).trace = s.trace := rfl
@[simp] theorem answer_imageIn (r : Result) : (s.answer r).imageIn = s.imageIn := rfl
@[simp] theorem answer_draws (r : Result) : (s.answer r).draws = s.draws := rfl
@[simp] theorem answer_chrRamDraw (r : Result) : (s.answer r).chrRamDraw = s.chrRamDraw := rfl
@[simp] theorem answer_result (r : Result) : (s.answer r).result = r := rfl
@[simp] theorem answer_events (r : Result) : (s.answer r).events = s.events := rfl

/-! ### answerOpenBus -/

@[simp] theorem answerOpenBus_cpuSlots : s.answerOpenBus.cpuSlots = s.cpuSlots := rfl
@[simp] theorem answerOpenBus_gfxSlots : s.answerOpenBus.gfxSlots = s.gfxSlots := rfl
@[simp] theorem answerOpenBus_rom : s.answerOpenBus.rom = s.rom := rfl
@[simp] theorem answerOpenBus_chrRam : s.answerOpenBus.chrRam = s.chrRam := rfl
@[simp] theorem answerOpenBus_pcbClass : s.answerOpenBus.pcbClass = s.pcbClass := rfl
@[simp] theorem answerOpenBus_prgReg : s.answerOpenBus.prgReg = s.prgReg := rfl
@[simp] theorem answerOpenBus_chrReg : s.answerOpenBus.chrReg = s.chrReg := rfl
@[simp] theorem answerOpenBus_mirror : s.answerOpenBus.mirror = s.mirror := rfl
@[simp] theorem answerOpenBus_style : s.answerOpenBus.style = s.style := rfl
@[simp] theorem answerOpenBus_fixedOffset : s.answerOpenBus.fixedOffset = s.fixedOffset := rfl
@[simp] theorem answerOpenBus_prgSizeOverride : s.answerOpenBus.prgSizeOverride = s.prgSizeOverride := rfl
@[simp] theorem answerOpenBus_irq : s.answerOpenBus.irq = s.irq := rfl
@[simp] theorem answerOpenBus_trace : s.answerOpenBus.trace = s.trace := rfl
@[simp] theorem answerOpenBus_imageIn : s.answerOpenBus.imageIn = s.imageIn := rfl
@[simp] theorem answerOpenBus_draws : s.answerOpenBus.draws = s.draws + 1 := rfl
@[simp] theorem answerOpenBus_chrRamDraw : s.answerOpenBus.chrRamDraw = s.chrRamDraw := rfl
@[simp] theorem answerOpenBus_result : s.answerOpenBus.result = .byte (Config.openBus s.draws) := rfl
@[simp] theorem answerOpenBus_events : s.answerOpenBus.events = s.events := rfl

/-! ### answerExt -/

@[simp] theorem answerExt_cpuSlots (o : Byte) (p a : Word) : (s.answerExt o p a).cpuSlots = s.cpuSlots := rfl
@[simp] theorem answerExt_gfxSlots (o : Byte) (p a : Word) : (s.answerExt o p a).gfxSlots = s.gfxSlots := rfl
@[simp] theorem answerExt_rom (o : Byte) (p a : Word) : (s.answerExt o p a).rom = s.rom := rfl
@[simp] theorem answerExt_chrRam (o : Byte) (p a : Word) : (s.answerExt o p a).chrRam = s.chrRam := rfl
@[simp] theorem answerExt_pcbClass (o : Byte) (p a : Word) : (s.answerExt o p a).pcbClass = s.pcbClass := rfl
@[simp] theorem answerExt_prgReg (o : Byte) (p a : Word) : (s.answerExt o p a).prgReg = s.prgReg := rfl
@[simp] theorem answerExt_chrReg (o : Byte) (p a : Word) : (s.answerExt o p a).chrReg = s.chrReg := rfl
@[simp] theorem answerExt_mirror (o : Byte) (p a : Word) : (s.answerExt o p a).mirror = s.mirror := rfl
@[simp] theorem answerExt_style (o : Byte) (p a : Word) : (s.answerExt o p a).style = s.style := rfl
@[simp] theorem answerExt_fixedOffset (o : Byte) (p a : Word) : (s.answerExt o p a).fixedOffset = s.fixedOffset := rfl
@[simp] theorem answerExt_prgSizeOverride (o : Byte) (p a : Word) : (s.answerExt o p a).prgSizeOverride = s.prgSizeOverride := rfl
@[simp] theorem answerExt_irq (o : Byte) (p a : Word) : (s.answerExt o p a).irq = s.irq := rfl
@[simp] theorem answerExt_trace (o : Byte) (p a : Word) : (s.answerExt o p a).trace = s.trace := rfl
@[simp] theorem answerExt_imageIn (o : Byte) (p a : Word) : (s.answerExt o p a).imageIn = s.imageIn := rfl
@[simp] theorem answerExt_draws (o : Byte) (p a : Word) : (s.answerExt o p a).draws = s.draws + 1 := rfl
@[simp] theorem answerExt_chrRamDraw (o : Byte) (p a : Word) : (s.answerExt o p a).chrRamDraw = s.chrRamDraw := rfl
@[simp] theorem answerExt_result (o : Byte) (p a : Word) : (s.answerExt o p a).result = .byte (Config.extRead s.draws o p a) := rfl
@[simp] theorem answerExt_events (o : Byte) (p a : Word) : (s.answerExt o p a).events = s.events := rfl

/-! ### emit -/

@[simp] theorem emit_cpuSlots (e : Event) : (s.emit e).cpuSlots = s.cpuSlots := rfl
@[simp] theorem emit_gfxSlots (e : Event) : (s.emit e).gfxSlots = s.gfxSlots := rfl
@[simp] theorem emit_rom (e : Event) : (s.emit e).rom = s.rom := rfl
@[simp] theorem emit_chrRam (e : Event) : (s.emit e).chrRam = s.chrRam := rfl
@[simp] theorem emit_pcbClass (e : Event) : (s.emit e).pcbClass = s.pcbClass := rfl
@[simp] theorem emit_prgReg (e : Event) : (s.emit e).prgReg = s.prgReg := rfl
@[simp] theorem emit_chrReg (e : Event) : (s.emit e).chrReg = s.chrReg := rfl
@[simp] theorem emit_mirror (e : Event) : (s.emit e).mirror = s.mirror := rfl
@[simp] theorem emit_style (e : Event) : (s.emit e).style = s.style := rfl
@[simp] theorem emit_fixedOffset (e : Event) : (s.emit e).fixedOffset = s.fixedOffset := rfl
@[simp] theorem emit_prgSizeOverride (e : Event) : (s.emit e).prgSizeOverride = s.prgSizeOverride := rfl
@[simp] theorem emit_irq (e : Event) : (s.emit e).irq = s.irq := rfl
@[simp] theorem emit_trace (e : Event) : (s.emit e).trace = s.trace := rfl
@[simp] theorem emit_imageIn (e : Event) : (s.emit e).imageIn = s.imageIn := rfl
@[simp] theorem emit_draws (e : Event) : (s.emit e).draws = s.draws := rfl
@[simp] theorem emit_chrRamDraw (e : Event) : (s.emit e).chrRamDraw = s.chrRamDraw := rfl
@[simp] theorem emit_result (e : Event) : (s.emit e).result = s.result := rfl
@[simp] theorem emit_events (e : Event) : (s.emit e).events = s.events ++ [e] := rfl

/-! ### setIrq -/

@[simp] theorem setIrq_cpuSlots (q : Irq) : (s.setIrq q).cpuSlots = s.cpuSlots := rfl
@[simp] theorem setIrq_gfxSlots (q : Irq) : (s.setIrq q).gfxSlots = s.gfxSlots := rfl
@[simp] theorem setIrq_rom (q : Irq) : (s.setIrq q).rom = s.rom := rfl
@[simp] theorem setIrq_chrRam (q : Irq) : (s.setIrq q).chrRam = s.chrRam := rfl
@[simp] theorem setIrq_pcbClass (q : Irq) : (s.setIrq q).pcbClass = s.pcbClass := rfl
@[simp] theorem setIrq_prgReg (q : Irq) : (s.setIrq q).prgReg = s.prgReg := rfl
@[simp] theorem setIrq_chrReg (q : Irq) : (s.setIrq q).chrReg = s.chrReg := rfl
@[simp] theorem setIrq_mirror (q : Irq) : (s.setIrq q).mirror = s.mirror := rfl
@[simp] theorem setIrq_style (q : Irq) : (s.setIrq q).style = s.style := rfl
@[simp] theorem setIrq_fixedOffset (q : Irq) : (s.setIrq q).fixedOffset = s.fixedOffset := rfl
@[simp] theorem setIrq_prgSizeOverride (q : Irq) : (s.setIrq q).prgSizeOverride = s.prgSizeOverride := rfl
@[simp] theorem setIrq_irq (q : Irq) : (s.setIrq q).irq = q := rfl
@[simp] theorem setIrq_trace (q : Irq) : (s.setIrq q).trace = s.trace := rfl
@[simp] theorem setIrq_imageIn (q : Irq) : (s.setIrq q).imageIn = s.imageIn := rfl
@[simp] theorem setIrq_draws (q : Irq) : (s.setIrq q).draws = s.draws := rfl
@[simp] theorem setIrq_chrRamDraw (q : Irq) : (s.setIrq q).chrRamDraw = s.chrRamDraw := rfl
@[simp] theorem setIrq_result (q : Irq) : (s.setIrq q).result = s.result := rfl
@[simp] theorem setIrq_events (q : Irq) : (s.setIrq q).events = if q.pending = s.irq.pending then s.events else s.events ++ [.irqLine q.pending] := rfl

/-! ### accept -/

@[simp] theorem accept_cpuSlots (l : TraceLine) (rest : List TraceLine) : (s.accept l rest).cpuSlots = s.cpuSlots := rfl
@[simp] theorem accept_gfxSlots (l : TraceLine) (rest : List TraceLine) : (s.accept l rest).gfxSlots = s.gfxSlots := rfl
@[simp] theorem accept_rom (l : TraceLine) (rest : List TraceLine) : (s.accept l rest).rom = s.rom := rfl
@[simp] theorem accept_chrRam (l : TraceLine) (rest : List TraceLine) : (s.accept l rest).chrRam = s.chrRam := rfl
@[simp] theorem accept_pcbClass (l : TraceLine) (rest : List TraceLine) : (s.accept l rest).pcbClass = s.pcbClass := rfl
@[simp] theorem accept_prgReg (l : TraceLine) (rest : List TraceLine) : (s.accept l rest).prgReg = s.prgReg := rfl
@[simp] theorem accept_chrReg (l : TraceLine) (rest : List TraceLine) : (s.accept l rest).chrReg = s.chrReg := rfl
@[simp] theorem accept_mirror (l : TraceLine) (rest : List TraceLine) : (s.accept l rest).mirror = s.mirror := rfl
@[simp] theorem accept_style (l : TraceLine) (rest : List TraceLine) : (s.accept l rest).style = s.style := rfl
@[simp] theorem accept_fixedOffset (l : TraceLine) (rest : List TraceLine) : (s.accept l rest).fixedOffset = s.fixedOffset := rfl
@[simp] theorem accept_prgSizeOverride (l : TraceLine) (rest : List TraceLine) : (s.accept l rest).prgSizeOverride = s.prgSizeOverride := rfl
@[simp] theorem accept_irq (l : TraceLine) (rest : List TraceLine) : (s.accept l rest).irq = s.irq := rfl
@[simp] theorem accept_trace (l : TraceLine) (rest : List TraceLine) : (s.accept l rest).trace = rest := rfl
@[simp] theorem accept_imageIn (l : TraceLine) (rest : List TraceLine) : (s.accept l rest).imageIn = l.image.getD s.imageIn := rfl
@[simp] theorem accept_draws (l : TraceLine) (rest : List TraceLine) : (s.accept l rest).draws = s.draws := rfl
@[simp] theorem accept_chrRamDraw (l : TraceLine) (rest : List TraceLine) : (s.accept l rest).chrRamDraw = s.chrRamDraw := rfl
@[simp] theorem accept_result (l : TraceLine) (rest : List TraceLine) : (s.accept l rest).result = .none := rfl
@[simp] theorem accept_events (l : TraceLine) (rest : List TraceLine) : (s.accept l rest).events = s.events := rfl

/-! ### present -/

@[simp] theorem present_cpuSlots (l : TraceLine) : (s.present l).cpuSlots = s.cpuSlots := rfl
@[simp] theorem present_gfxSlots (l : TraceLine) : (s.present l).gfxSlots = s.gfxSlots := rfl
@[simp] theorem present_rom (l : TraceLine) : (s.present l).rom = s.rom := rfl
@[simp] theorem present_chrRam (l : TraceLine) : (s.present l).chrRam = s.chrRam := rfl
@[simp] theorem present_pcbClass (l : TraceLine) : (s.present l).pcbClass = s.pcbClass := rfl
@[simp] theorem present_prgReg (l : TraceLine) : (s.present l).prgReg = s.prgReg := rfl
@[simp] theorem present_chrReg (l : TraceLine) : (s.present l).chrReg = s.chrReg := rfl
@[simp] theorem present_mirror (l : TraceLine) : (s.present l).mirror = s.mirror := rfl
@[simp] theorem present_style (l : TraceLine) : (s.present l).style = s.style := rfl
@[simp] theorem present_fixedOffset (l : TraceLine) : (s.present l).fixedOffset = s.fixedOffset := rfl
@[simp] theorem present_prgSizeOverride (l : TraceLine) : (s.present l).prgSizeOverride = s.prgSizeOverride := rfl
@[simp] theorem present_irq (l : TraceLine) : (s.present l).irq = s.irq := rfl
@[simp] theorem present_trace (l : TraceLine) : (s.present l).trace = l :: s.trace := rfl
@[simp] theorem present_imageIn (l : TraceLine) : (s.present l).imageIn = s.imageIn := rfl
@[simp] theorem present_draws (l : TraceLine) : (s.present l).draws = s.draws := rfl
@[simp] theorem present_chrRamDraw (l : TraceLine) : (s.present l).chrRamDraw = s.chrRamDraw := rfl
@[simp] theorem present_result (l : TraceLine) : (s.present l).result = s.result := rfl
@[simp] theorem present_events (l : TraceLine) : (s.present l).events = s.events := rfl

/-! ### emitNtMode -/

@[simp] theorem emitNtMode_cpuSlots : s.emitNtMode.cpuSlots = s.cpuSlots := rfl
@[simp] theorem emitNtMode_gfxSlots : s.emitNtMode.gfxSlots = s.gfxSlots := rfl
@[simp] theorem emitNtMode_rom : s.emitNtMode.rom = s.rom := rfl
@[simp] theorem emitNtMode_chrRam : s.emitNtMode.chrRam = s.chrRam := rfl
@[simp] theorem emitNtMode_pcbClass : s.emitNtMode.pcbClass = s.pcbClass := rfl
@[simp] theorem emitNtMode_prgReg : s.emitNtMode.prgReg = s.prgReg := rfl
@[simp] theorem emitNtMode_chrReg : s.emitNtMode.chrReg = s.chrReg := rfl
@[simp] theorem emitNtMode_mirror : s.emitNtMode.mirror = s.mirror := rfl
@[simp] theorem emitNtMode_style : s.emitNtMode.style = s.style := rfl
@[simp] theorem emitNtMode_fixedOffset : s.emitNtMode.fixedOffset = s.fixedOffset := rfl
@[simp] theorem emitNtMode_prgSizeOverride : s.emitNtMode.prgSizeOverride = s.prgSizeOverride := rfl
@[simp] theorem emitNtMode_irq : s.emitNtMode.irq = s.irq := rfl
@[simp] theorem emitNtMode_trace : s.emitNtMode.trace = s.trace := rfl
@[simp] theorem emitNtMode_imageIn : s.emitNtMode.imageIn = s.imageIn := rfl
@[simp] theorem emitNtMode_draws : s.emitNtMode.draws = s.draws := rfl
@[simp] theorem emitNtMode_chrRamDraw : s.emitNtMode.chrRamDraw = s.chrRamDraw := rfl
@[simp] theorem emitNtMode_result : s.emitNtMode.result = s.result := rfl
@[simp] theorem emitNtMode_events : s.emitNtMode.events = s.events ++ [.ntMode s.effMirror] := rfl

/-! ### writeMirror -/

@[simp] theorem writeMirror_cpuSlots (m : NtMode) : (s.writeMirror m).cpuSlots = s.cpuSlots := rfl
@[simp] theorem writeMirror_gfxSlots (m : NtMode) : (s.writeMirror m).gfxSlots = s.gfxSlots := rfl
@[simp] theorem writeMirror_rom (m : NtMode) : (s.writeMirror m).rom = s.rom := rfl
@[simp] theorem writeMirror_chrRam (m : NtMode) : (s.writeMirror m).chrRam = s.chrRam := rfl
@[simp] theorem writeMirror_pcbClass (m : NtMode) : (s.writeMirror m).pcbClass = s.pcbClass := rfl
@[simp] theorem writeMirror_prgReg (m : NtMode) : (s.writeMirror m).prgReg = s.prgReg := rfl
@[simp] theorem writeMirror_chrReg (m : NtMode) : (s.writeMirror m).chrReg = s.chrReg := rfl
@[simp] theorem writeMirror_mirror (m : NtMode) : (s.writeMirror m).mirror = .mode m := rfl
@[simp] theorem writeMirror_style (m : NtMode) : (s.writeMirror m).style = s.style := rfl
@[simp] theorem writeMirror_fixedOffset (m : NtMode) : (s.writeMirror m).fixedOffset = s.fixedOffset := rfl
@[simp] theorem writeMirror_prgSizeOverride (m : NtMode) : (s.writeMirror m).prgSizeOverride = s.prgSizeOverride := rfl
@[simp] theorem writeMirror_irq (m : NtMode) : (s.writeMirror m).irq = s.irq := rfl
@[simp] theorem writeMirror_trace (m : NtMode) : (s.writeMirror m).trace = s.trace := rfl
@[simp] theorem writeMirror_imageIn (m : NtMode) : (s.writeMirror m).imageIn = s.imageIn := rfl
@[simp] theorem writeMirror_draws (m : NtMode) : (s.writeMirror m).draws = s.draws := rfl
@[simp] theorem writeMirror_chrRamDraw (m : NtMode) : (s.writeMirror m).chrRamDraw = s.chrRamDraw := rfl
@[simp] theorem writeMirror_result (m : NtMode) : (s.writeMirror m).result = s.result := rfl
@[simp] theorem writeMirror_events (m : NtMode) : (s.writeMirror m).events = s.events ++ [.ntMode m] := rfl

end Sys2Proof.Machine
end

