-- ==== Sys2Proof/Laws/Reads.lean ====
section
/-! SUPPORT. The bank arithmetic stays in bounds, and a read changes nothing but the result and the draw counter. -/

namespace Sys2Proof.Machine

theorem bankCount_pos (S B : Nat) : 0 < bankCount S B := by unfold bankCount; omega

theorem swapOffset_lt {d r B S : Nat} (hS : 0 < S) : swapOffset d r B S < S := Nat.mod_lt _ hS

theorem fixedBankOffset_lt {d f S : Nat} (h : f < S) : fixedBankOffset d f S < S := by
  unfold fixedBankOffset
  have : d % max 1 (S - f) < max 1 (S - f) := Nat.mod_lt _ (by omega)
  omega

/-- Where the ROM is at least a bank long the final modulo changes nothing (41_mapper_common.md R154). -/
theorem swapOffset_of_le {d r B S : Nat} (hd : d < B) (hS : B ≤ S) :
    swapOffset d r B S = d + (r % bankCount S B) * B := by
  unfold swapOffset
  refine Nat.mod_eq_of_lt ?_
  have hB : 0 < B := by omega
  have hq : 1 ≤ S / B := Nat.div_pos hS hB
  have hc : bankCount S B = S / B := by unfold bankCount; omega
  have hr : r % bankCount S B < S / B := by rw [hc]; exact Nat.mod_lt _ hq
  have h1 : (r % bankCount S B + 1) * B ≤ S := le_trans (Nat.mul_le_mul_right B hr) (Nat.div_mul_le_self S B)
  have h2 : (r % bankCount S B + 1) * B = (r % bankCount S B) * B + B := Nat.succ_mul _ _
  omega

/-- Where the ROM is shorter than a bank the whole ROM is one bank (41_mapper_common.md R154). -/
theorem swapOffset_of_lt {d r B S : Nat} (hS : S < B) : swapOffset d r B S = d % S := by
  unfold swapOffset
  have hc : bankCount S B = 1 := by unfold bankCount; rw [Nat.div_eq_of_lt hS]; rfl
  rw [hc, Nat.mod_one, Nat.zero_mul, Nat.add_zero]

theorem answerRom_some (s : State) (b : Byte) : s.answerRom (some b) = s.answer (.byte b) := rfl

/-- Everything a read can do: it answers one byte, and takes at most one free byte. -/
theorem readSlot_cases (s : State) (x : Slot) (a : Word) :
    ∃ b n, s.readSlot x a = { s with result := .byte b, draws := n } ∧ (n = s.draws ∨ n = s.draws + 1) := by
  have rom : ∀ o : Option Byte, ∃ b n,
      s.answerRom o = { s with result := .byte b, draws := n } ∧ (n = s.draws ∨ n = s.draws + 1) := by
    intro o
    cases o with
    | some b => exact ⟨b, s.draws, rfl, .inl rfl⟩
    | none => exact ⟨_, _, rfl, .inr rfl⟩
  unfold State.readSlot State.answerFrom
  split
  · exact ⟨_, _, rfl, .inr rfl⟩
  · exact rom _
  · exact rom _
  · exact ⟨_, _, rfl, .inl rfl⟩
  · exact ⟨_, _, rfl, .inr rfl⟩

end Sys2Proof.Machine
end

