-- ==== Sys2Proof/Laws/Irq.lean ====
section
/-! SUPPORT. The IRQ counter: what each strobe does to each of its registers. -/

namespace Sys2Proof.Machine

variable (q : Irq)

@[simp] theorem Irq.count_latch : q.count.latch = q.latch := by unfold Irq.count; split <;> rfl
@[simp] theorem Irq.count_enabled : q.count.enabled = q.enabled := by unfold Irq.count; split <;> rfl
@[simp] theorem Irq.count_cycleMode : q.count.cycleMode = q.cycleMode := by unfold Irq.count; split <;> rfl
@[simp] theorem Irq.count_divPhase : q.count.divPhase = q.divPhase := by unfold Irq.count; split <;> rfl

theorem Irq.count_zero (h : q.counter = 0) : q.count = { q with counter := q.latch, pending := true } := if_pos h

theorem Irq.count_pos (h : q.counter ≠ 0) : q.count = { q with counter := q.counter - 1 } := if_neg h

theorem Irq.tick_disabled (N : Nat) (h : q.enabled = false) : q.tick N = q := by simp [Irq.tick, h]

theorem Irq.tick_cycle (N : Nat) (he : q.enabled = true) (hc : q.cycleMode = true) : q.tick N = q.count := by
  simp [Irq.tick, he, hc]

theorem Irq.tick_last (N : Nat) (he : q.enabled = true) (hc : q.cycleMode = false) (hd : q.divPhase = N - 1) :
    q.tick N = Irq.count { q with divPhase := 0 } := by simp [Irq.tick, he, hc, hd]

theorem Irq.tick_phase (N : Nat) (he : q.enabled = true) (hc : q.cycleMode = false) (hd : q.divPhase ≠ N - 1) :
    q.tick N = { q with divPhase := q.divPhase + 1 } := by simp [Irq.tick, he, hc, hd]

/-- A tick changes neither the latch nor the two control flags. -/
theorem Irq.tick_keeps (N : Nat) :
    (q.tick N).latch = q.latch ∧ (q.tick N).enabled = q.enabled ∧ (q.tick N).cycleMode = q.cycleMode := by
  unfold Irq.tick
  split
  · simp
  · split
    · simp
    · split <;> simp

/-- A tick never lowers the line. -/
theorem Irq.tick_pending (N : Nat) (h : q.pending = true) : (q.tick N).pending = true := by
  unfold Irq.tick Irq.count
  grind

/-- The divider stays below `N`. -/
theorem Irq.tick_divPhase (N : Nat) (hN : 0 < N) (h : q.divPhase < N) : (q.tick N).divPhase < N := by
  unfold Irq.tick Irq.count
  grind

theorem Irq.setControl_latch (e c : Bool) : (q.setControl e c).latch = q.latch := by
  unfold Irq.setControl; split <;> rfl

theorem Irq.setControl_divPhase (N : Nat) (hN : 0 < N) (h : q.divPhase < N) (e c : Bool) :
    (q.setControl e c).divPhase < N := by
  unfold Irq.setControl; split <;> assumption

/-- The line only falls at a control write. -/
theorem Irq.setControl_pending (e c : Bool) (h : (q.setControl e c).pending = true) : q.pending = true := by
  unfold Irq.setControl at h; split at h <;> simp_all

end Sys2Proof.Machine
end

