-- ==== Sys2Proof/Laws/Registers.lean ====
section
/-! SUPPORT. Everything a register write and a write through a slot can do. -/

namespace Sys2Proof.Machine

/-- The effects a register write can have on a state. -/
inductive RegEffect (s : State) : State → Prop
  | nop : RegEffect s s
  | prg (i : Fin 2) (v : Byte) (h : v.toNat ≤ 0x1F) : RegEffect s (s.setPrgReg i v)
  | prgMirror (v : Byte) (m : NtMode) (h : v.toNat ≤ 0x07) (hm : m ≠ .fourScreen) :
      RegEffect s ((s.setPrgReg 0 v).writeMirror m)
  | chr (k : Fin 8) (v : Byte) : RegEffect s (s.setChrReg k v)
  | mirror (m : NtMode) (hm : m ≠ .fourScreen) : RegEffect s (s.writeMirror m)
  | styleMirror (y : BitVec 2) (m : NtMode) (hm : m ≠ .fourScreen) : RegEffect s ((s.setStyle y).writeMirror m)
  | latch (b : Byte) : RegEffect s (s.setIrq (s.irq.setLatch b))
  | control (e c : Bool) : RegEffect s (s.setIrq (s.irq.setControl e c))
  | ack : RegEffect s (s.setIrq s.irq.ack)

/-- A register write leaves the tables, the image, the class and CHR-RAM as they are. -/
theorem regEffect_frame {s t : State} (h : RegEffect s t) :
    t.cpuSlots = s.cpuSlots ∧ t.gfxSlots = s.gfxSlots ∧ t.rom = s.rom ∧ t.pcbClass = s.pcbClass ∧
      t.chrRam = s.chrRam := by
  cases h <;> exact ⟨rfl, rfl, rfl, rfl, rfl⟩

theorem mirrorOfField_ne (f : BitVec 2) : mirrorOfField f ≠ .fourScreen := by revert f; decide

theorem mirrorOfBit_ne (b : Bool) : mirrorOfBit b ≠ .fourScreen := by cases b <;> decide

theorem toNat_and_le (v m : Byte) : (v &&& m).toNat ≤ m.toNat := by
  rw [BitVec.toNat_and]; exact Nat.and_le_right

/-- Everything a register write can do: it completes, with one of the effects. -/
theorem regWrite_cases (m : Variant) (ca : Word) (v : Byte) (s : State) :
    ∃ t, regWrite m ca v s = .next t ∧ RegEffect s t := by
  have h5 : (v &&& 0x1F).toNat ≤ 0x1F := toNat_and_le v 0x1F
  have h4 : (v &&& 0x0F).toNat ≤ 0x1F := le_trans (toNat_and_le v 0x0F) (by decide)
  have h3 : (v &&& 0x07).toNat ≤ 0x07 := toNat_and_le v 0x07
  have hf := mirrorOfField_ne
  have hb := mirrorOfBit_ne
  unfold regWrite
  cases m with
  | v0 => dsimp only; split; exacts [⟨_, rfl, .prg _ _ h5⟩, ⟨_, rfl, .nop⟩]
  | v1 => dsimp only; split; exacts [⟨_, rfl, .prgMirror _ _ h3 (hb _)⟩, ⟨_, rfl, .nop⟩]
  | v2 =>
    dsimp only [regWriteV2]
    split
    all_goals first
      | exact ⟨_, rfl, .prg _ _ h5⟩
      | exact ⟨_, rfl, .mirror _ (hf _)⟩
      | exact ⟨_, rfl, .chr _ _⟩
      | exact ⟨_, rfl, .latch _⟩
      | exact ⟨_, rfl, .control _ _⟩
      | exact ⟨_, rfl, .ack⟩
      | exact ⟨_, rfl, .nop⟩
  | v3 =>
    dsimp only [regWriteV3]
    split
    all_goals first
      | exact ⟨_, rfl, .prg _ _ h4⟩
      | exact ⟨_, rfl, .prg _ _ h5⟩
      | exact ⟨_, rfl, .styleMirror _ _ (hf _)⟩
      | exact ⟨_, rfl, .chr _ _⟩
      | exact ⟨_, rfl, .latch _⟩
      | exact ⟨_, rfl, .control _ _⟩
      | exact ⟨_, rfl, .ack⟩
      | exact ⟨_, rfl, .nop⟩

/-- Everything a write through a slot can do: it completes; and its effect is that of a register write, one CHR-RAM
byte, or one event. -/
theorem writeSlot_cases (s : State) (x : Slot) (a : Word) (v : Byte) :
    ∃ t, s.writeSlot x a v = .next t ∧
      (RegEffect s t ∨ (x.wk = .wChrRam ∧ t = s.writeChrRam (a.toNat % Config.chrRamBytes) v) ∨
        t = s.emit (.extWrite x.wo x.wp a v)) := by
  unfold State.writeSlot
  split
  · exact ⟨_, rfl, .inl .nop⟩
  · obtain ⟨t, ht, he⟩ := regWrite_cases s.variant (swizzle s.wiring a) v s
    exact ⟨t, ht, .inl he⟩
  · exact ⟨_, rfl, .inr (.inl ⟨by assumption, rfl⟩)⟩
  · exact ⟨_, rfl, .inr (.inr rfl)⟩

end Sys2Proof.Machine
end

