-- ==== Sys2Proof/Laws/Exec.lean ====
section
/-! SUPPORT. Everything an operation and a step can do to the state. -/

namespace Sys2Proof.Machine

/-- The effects an instruction can have on a state. -/
inductive Effect (s : State) (i : Instr) : State → Prop
  | register {t : State} (h : RegEffect s t) : Effect s i t
  | chrRam (off : Nat) (v : Byte) (h : off < Config.chrRamBytes) : Effect s i (s.writeChrRam off v)
  | event (e : Event) : Effect s i (s.emit e)
  | answer (r : Result) (n : Nat) : Effect s i { s with result := r, draws := n }
  | cpuSlot (a : Word) (g : Slot → Slot) (h : (∃ k o p, i = .setrf a k o p) ∨ ∃ k o p, i = .setwf a k o p) :
      Effect s i (s.modifyCpu a.toNat 1 g)
  | gfxSlot (a : GfxAddr) (g : Slot → Slot) (h : (∃ k o p, i = .gsetrf a k o p) ∨ ∃ k o p, i = .gsetwf a k o p) :
      Effect s i (s.modifyGfx a.toNat 1 g)
  | load (h : i = .init) : Effect s i (s.load (overridden s.imageIn).1 (overridden s.imageIn).2)
  | install (h : i = .apply) :
      Effect s i (State.emitNtMode { s with cpuSlots := cpuTableOf s.variant, gfxSlots := gfxTableOf s.useChrRam })
  | count (h : i = .tick) (hv : hasIrq s.variant = true) : Effect s i (s.setIrq (s.irq.tick Config.irqDivN))

theorem writeSlot_effect {i : Instr} {s t : State} {x : Slot} {a : Word} {v : Byte}
    (h : s.writeSlot x a v = .next t) : Effect s i t := by
  obtain ⟨u, hu, he⟩ := writeSlot_cases s x a v
  rw [hu] at h
  cases h
  obtain he | ⟨-, rfl⟩ | rfl := he
  · exact .register he
  · exact .chrRam _ _ (Nat.mod_lt _ (by decide))
  · exact .event _

theorem readSlot_effect (i : Instr) (s : State) (x : Slot) (a : Word) : Effect s i (s.readSlot x a) := by
  obtain ⟨b, n, h, -⟩ := readSlot_cases s x a
  rw [h]
  exact .answer _ _

/-- Everything a row of a register map can do. -/
theorem row_effect {i : Instr} {s t : State} (h : exec i s = .next t) (hf : i.format ≠ .cmd) : RegEffect s t := by
  have h5 : ∀ v : Byte, (v &&& 0x1F).toNat ≤ 0x1F := fun v => toNat_and_le v 0x1F
  have h4 : ∀ v : Byte, (v &&& 0x0F).toNat ≤ 0x1F := fun v => le_trans (toNat_and_le v 0x0F) (by decide)
  have h3 : ∀ v : Byte, (v &&& 0x07).toNat ≤ 0x07 := fun v => toNat_and_le v 0x07
  have hm := mirrorOfField_ne
  have hb := mirrorOfBit_ne
  cases i <;> simp only [Instr.format, ne_eq, not_true_eq_false] at hf <;> cases h <;>
    first
    | exact .nop
    | exact .prg _ _ (h5 _)
    | exact .prg _ _ (h4 _)
    | exact .prgMirror _ _ (h3 _) (hb _)
    | exact .mirror _ (hm _)
    | exact .styleMirror _ _ (hm _)
    | exact .chr _ _
    | exact .latch _
    | exact .control _ _
    | exact .ack

/-- Everything an instruction can do. -/
theorem exec_cases {i : Instr} {s t : State} (h : exec i s = .next t) : Effect s i t := by
  cases i
  case rd a => cases h; exact readSlot_effect _ _ _ _
  case grd a => cases h; exact readSlot_effect _ _ _ _
  case wr a v => exact writeSlot_effect h
  case gwr a v => exact writeSlot_effect h
  case setrf a k o p => cases h; exact .cpuSlot _ _ (.inl ⟨_, _, _, rfl⟩)
  case setwf a k o p => cases h; exact .cpuSlot _ _ (.inr ⟨_, _, _, rfl⟩)
  case gsetrf a k o p => cases h; exact .gfxSlot _ _ (.inl ⟨_, _, _, rfl⟩)
  case gsetwf a k o p => cases h; exact .gfxSlot _ _ (.inr ⟨_, _, _, rfl⟩)
  case init => cases h; exact .load rfl
  case apply => cases h; exact .install rfl
  case tick =>
    simp only [exec, execTick] at h
    split at h <;> cases h
    · exact .count rfl (by assumption)
    · exact .register .nop
  case classify m sub => cases h; exact .answer _ _
  case lookup c => cases h; exact .answer _ _
  all_goals exact .register (row_effect h (by simp [Instr.format]))

/-- Everything a step can do: nothing with no operation left, else what the next operation does. -/
theorem step_cases {s t : State} (h : step s = .next t) :
    (s.trace = [] ∧ t = s) ∨
      ∃ l rest i, s.trace = l :: rest ∧ decodeCmd l.word = .ok i ∧ Effect (s.accept l rest) i t := by
  unfold step at h
  split at h
  · cases h; exact .inl ⟨by assumption, rfl⟩
  · split at h
    · exact .inr ⟨_, _, _, by assumption, by assumption, exec_cases h⟩
    · cases h

end Sys2Proof.Machine
end

