-- ==== Sys2Proof/Laws/PerInstr.lean ====
section
/-! SUPPORT. The form of every instruction's encoding: a command is eight bytes whose last, `RSV`, is zero
(30_encoding.md R91, R97); a register write is the canonical address, high byte first, and the data byte. -/

namespace Sys2Proof.Laws.EncodeForm

/-- The form of an instruction's encoding. -/
def Statement (i : Instr) : Prop :=
  match i.format with
  | .cmd => (encode i).length = 8 ∧ (encode i).getLast? = some 0
  | .regw _ => ∃ ca v, i.regWord = some (ca, v) ∧ encode i = [ca.extractLsb' 8 8, ca.extractLsb' 0 8, v]

/-- The reserved byte of a command word is zero. -/
theorem cmdWord_rsv (op : BitVec 8) (addr param : Word) (data owner : Byte) :
    (cmdWord op addr param data owner).extractLsb' 0 8 = 0 := by
  ext n hn
  simp [cmdWord]
  grind

/-- A command word's bytes have the form. -/
theorem bytesOfWord_form (op : BitVec 8) (addr param : Word) (data owner : Byte) :
    (bytesOfWord (cmdWord op addr param data owner)).length = 8 ∧
      (bytesOfWord (cmdWord op addr param data owner)).getLast? = some 0 :=
  ⟨rfl, congrArg some (cmdWord_rsv op addr param data owner)⟩

theorem rd (a : Word) : Statement (.rd a) := bytesOfWord_form _ _ _ _ _
theorem wr (a : Word) (v : Byte) : Statement (.wr a v) := bytesOfWord_form _ _ _ _ _
theorem grd (a : GfxAddr) : Statement (.grd a) := bytesOfWord_form _ _ _ _ _
theorem gwr (a : GfxAddr) (v : Byte) : Statement (.gwr a v) := bytesOfWord_form _ _ _ _ _
theorem setrf (a : Word) (k : ReadKind) (o : Byte) (p : Word) : Statement (.setrf a k o p) := bytesOfWord_form _ _ _ _ _
theorem setwf (a : Word) (k : WriteKind) (o : Byte) (p : Word) : Statement (.setwf a k o p) := bytesOfWord_form _ _ _ _ _
theorem gsetrf (a : GfxAddr) (k : ReadKind) (o : Byte) (p : Word) : Statement (.gsetrf a k o p) := bytesOfWord_form _ _ _ _ _
theorem gsetwf (a : GfxAddr) (k : WriteKind) (o : Byte) (p : Word) : Statement (.gsetwf a k o p) := bytesOfWord_form _ _ _ _ _
theorem init : Statement .init := bytesOfWord_form _ _ _ _ _
theorem apply : Statement .apply := bytesOfWord_form _ _ _ _ _
theorem tick : Statement .tick := bytesOfWord_form _ _ _ _ _
theorem classify (m : Word) (sub : Byte) : Statement (.classify m sub) := bytesOfWord_form _ _ _ _ _
theorem lookup (c : Checksum) : Statement (.lookup c) := bytesOfWord_form _ _ _ _ _
theorem v0Prgsel (ca : Word) (v : Byte) : Statement (.v0Prgsel ca v) := ⟨_, _, rfl, rfl⟩
theorem v1PrgselMirror (ca : Word) (v : Byte) : Statement (.v1PrgselMirror ca v) := ⟨_, _, rfl, rfl⟩
theorem v2Prg0 (ca : Word) (v : Byte) : Statement (.v2Prg0 ca v) := ⟨_, _, rfl, rfl⟩
theorem v2Mirror (ca : Word) (v : Byte) : Statement (.v2Mirror ca v) := ⟨_, _, rfl, rfl⟩
theorem v2SwapmodeNop (ca : Word) (v : Byte) : Statement (.v2SwapmodeNop ca v) := ⟨_, _, rfl, rfl⟩
theorem v2Prg1 (ca : Word) (v : Byte) : Statement (.v2Prg1 ca v) := ⟨_, _, rfl, rfl⟩
theorem v2Chr0Lo (ca : Word) (v : Byte) : Statement (.v2Chr0Lo ca v) := ⟨_, _, rfl, rfl⟩
theorem v2Chr0Hi (ca : Word) (v : Byte) : Statement (.v2Chr0Hi ca v) := ⟨_, _, rfl, rfl⟩
theorem v2Chr1Lo (ca : Word) (v : Byte) : Statement (.v2Chr1Lo ca v) := ⟨_, _, rfl, rfl⟩
theorem v2Chr1Hi (ca : Word) (v : Byte) : Statement (.v2Chr1Hi ca v) := ⟨_, _, rfl, rfl⟩
theorem v2Chr2Lo (ca : Word) (v : Byte) : Statement (.v2Chr2Lo ca v) := ⟨_, _, rfl, rfl⟩
theorem v2Chr2Hi (ca : Word) (v : Byte) : Statement (.v2Chr2Hi ca v) := ⟨_, _, rfl, rfl⟩
theorem v2Chr3Lo (ca : Word) (v : Byte) : Statement (.v2Chr3Lo ca v) := ⟨_, _, rfl, rfl⟩
theorem v2Chr3Hi (ca : Word) (v : Byte) : Statement (.v2Chr3Hi ca v) := ⟨_, _, rfl, rfl⟩
theorem v2Chr4Lo (ca : Word) (v : Byte) : Statement (.v2Chr4Lo ca v) := ⟨_, _, rfl, rfl⟩
theorem v2Chr4Hi (ca : Word) (v : Byte) : Statement (.v2Chr4Hi ca v) := ⟨_, _, rfl, rfl⟩
theorem v2Chr5Lo (ca : Word) (v : Byte) : Statement (.v2Chr5Lo ca v) := ⟨_, _, rfl, rfl⟩
theorem v2Chr5Hi (ca : Word) (v : Byte) : Statement (.v2Chr5Hi ca v) := ⟨_, _, rfl, rfl⟩
theorem v2Chr6Lo (ca : Word) (v : Byte) : Statement (.v2Chr6Lo ca v) := ⟨_, _, rfl, rfl⟩
theorem v2Chr6Hi (ca : Word) (v : Byte) : Statement (.v2Chr6Hi ca v) := ⟨_, _, rfl, rfl⟩
theorem v2Chr7Lo (ca : Word) (v : Byte) : Statement (.v2Chr7Lo ca v) := ⟨_, _, rfl, rfl⟩
theorem v2Chr7Hi (ca : Word) (v : Byte) : Statement (.v2Chr7Hi ca v) := ⟨_, _, rfl, rfl⟩
theorem v2IrqLatchLo (ca : Word) (v : Byte) : Statement (.v2IrqLatchLo ca v) := ⟨_, _, rfl, rfl⟩
theorem v2IrqLatchHi (ca : Word) (v : Byte) : Statement (.v2IrqLatchHi ca v) := ⟨_, _, rfl, rfl⟩
theorem v2IrqControl (ca : Word) (v : Byte) : Statement (.v2IrqControl ca v) := ⟨_, _, rfl, rfl⟩
theorem v2IrqAck (ca : Word) (v : Byte) : Statement (.v2IrqAck ca v) := ⟨_, _, rfl, rfl⟩
theorem v3Prg0 (ca : Word) (v : Byte) : Statement (.v3Prg0 ca v) := ⟨_, _, rfl, rfl⟩
theorem v3Sound9Nop (ca : Word) (v : Byte) : Statement (.v3Sound9Nop ca v) := ⟨_, _, rfl, rfl⟩
theorem v3SoundANop (ca : Word) (v : Byte) : Statement (.v3SoundANop ca v) := ⟨_, _, rfl, rfl⟩
theorem v3SoundB0Nop (ca : Word) (v : Byte) : Statement (.v3SoundB0Nop ca v) := ⟨_, _, rfl, rfl⟩
theorem v3SoundB1Nop (ca : Word) (v : Byte) : Statement (.v3SoundB1Nop ca v) := ⟨_, _, rfl, rfl⟩
theorem v3SoundB2Nop (ca : Word) (v : Byte) : Statement (.v3SoundB2Nop ca v) := ⟨_, _, rfl, rfl⟩
theorem v3BankingControl (ca : Word) (v : Byte) : Statement (.v3BankingControl ca v) := ⟨_, _, rfl, rfl⟩
theorem v3Prg1 (ca : Word) (v : Byte) : Statement (.v3Prg1 ca v) := ⟨_, _, rfl, rfl⟩
theorem v3Chr0 (ca : Word) (v : Byte) : Statement (.v3Chr0 ca v) := ⟨_, _, rfl, rfl⟩
theorem v3Chr1 (ca : Word) (v : Byte) : Statement (.v3Chr1 ca v) := ⟨_, _, rfl, rfl⟩
theorem v3Chr2 (ca : Word) (v : Byte) : Statement (.v3Chr2 ca v) := ⟨_, _, rfl, rfl⟩
theorem v3Chr3 (ca : Word) (v : Byte) : Statement (.v3Chr3 ca v) := ⟨_, _, rfl, rfl⟩
theorem v3Chr4 (ca : Word) (v : Byte) : Statement (.v3Chr4 ca v) := ⟨_, _, rfl, rfl⟩
theorem v3Chr5 (ca : Word) (v : Byte) : Statement (.v3Chr5 ca v) := ⟨_, _, rfl, rfl⟩
theorem v3Chr6 (ca : Word) (v : Byte) : Statement (.v3Chr6 ca v) := ⟨_, _, rfl, rfl⟩
theorem v3Chr7 (ca : Word) (v : Byte) : Statement (.v3Chr7 ca v) := ⟨_, _, rfl, rfl⟩
theorem v3IrqLatch (ca : Word) (v : Byte) : Statement (.v3IrqLatch ca v) := ⟨_, _, rfl, rfl⟩
theorem v3IrqControl (ca : Word) (v : Byte) : Statement (.v3IrqControl ca v) := ⟨_, _, rfl, rfl⟩
theorem v3IrqAck (ca : Word) (v : Byte) : Statement (.v3IrqAck ca v) := ⟨_, _, rfl, rfl⟩
theorem v3UnmatchedF3Nop (ca : Word) (v : Byte) : Statement (.v3UnmatchedF3Nop ca v) := ⟨_, _, rfl, rfl⟩

end Sys2Proof.Laws.EncodeForm
end

