-- ==== Sys2Proof/Laws/SlotTable.lean ====
section
/-! SUPPORT. Dispatch tables: what a slot reads as after a change, and that every change keeps the canonical form. -/

namespace Sys2Proof.Machine

variable {g : Slot → Slot} {lo hi top n a b : Nat} {d x : Slot}

@[simp] theorem SlotTable.getFrom_nil : SlotTable.getFrom d [] a = d := rfl

@[simp] theorem SlotTable.getFrom_cons {t : SlotTable} :
    SlotTable.getFrom d ((n, x) :: t) a = if a < n then d else SlotTable.getFrom x t a := rfl

@[simp] theorem SlotTable.getFrom_put (t : SlotTable) :
    SlotTable.getFrom d (SlotTable.put d n x t) a = if a < n then d else SlotTable.getFrom x t a := by
  induction t generalizing x with
  | nil => unfold SlotTable.put; split <;> simp_all
  | cons c t ih =>
    obtain ⟨m, y⟩ := c
    unfold SlotTable.put
    split
    · rw [ih, SlotTable.getFrom_cons]
      grind
    · split
      · simp only [SlotTable.getFrom_cons]; grind
      · simp only [SlotTable.getFrom_cons]

theorem SlotTable.getFrom_modifyInside (t : SlotTable) :
    SlotTable.getFrom (g d) (SlotTable.modifyInside g hi d t) a =
      if a < hi then g (SlotTable.getFrom d t a) else SlotTable.getFrom d t a := by
  induction t generalizing d with
  | nil => simp [SlotTable.modifyInside]
  | cons c t ih =>
    obtain ⟨m, y⟩ := c
    unfold SlotTable.modifyInside
    split
    · simp only [SlotTable.getFrom_put, SlotTable.getFrom_cons]; grind
    · simp only [SlotTable.getFrom_put, SlotTable.getFrom_cons, ih]; grind

theorem SlotTable.getFrom_modifyFrom (h : lo < hi) (t : SlotTable) :
    SlotTable.getFrom d (SlotTable.modifyFrom g lo hi d t) a =
      if lo ≤ a ∧ a < hi then g (SlotTable.getFrom d t a) else SlotTable.getFrom d t a := by
  induction t generalizing d with
  | nil => simp only [SlotTable.modifyFrom, SlotTable.getFrom_put, SlotTable.getFrom_modifyInside, SlotTable.getFrom_nil]; grind
  | cons c t ih =>
    obtain ⟨m, y⟩ := c
    unfold SlotTable.modifyFrom
    split
    · simp only [SlotTable.getFrom_put, SlotTable.getFrom_modifyInside, SlotTable.getFrom_cons]; grind
    · simp only [SlotTable.getFrom_put, SlotTable.getFrom_cons, ih]; grind

/-- Every slot of a table after a change: the changed slots of the range, and all others as before. -/
theorem SlotTable.get_modify (t : SlotTable) (base size : Nat) :
    SlotTable.get (t.modify base size g) a =
      if base ≤ a ∧ a < base + size then g (SlotTable.get t a) else SlotTable.get t a := by
  unfold SlotTable.modify SlotTable.get
  split
  · subst size; grind
  · exact SlotTable.getFrom_modifyFrom (by omega) t

theorem SlotTable.get_modify_one (t : SlotTable) (base : Nat) :
    SlotTable.get (t.modify base 1 g) a = if a = base then g (SlotTable.get t a) else SlotTable.get t a := by
  rw [SlotTable.get_modify]; grind

@[simp] theorem SlotTable.get_nil : SlotTable.get [] a = Slot.default := rfl

/-! ### The canonical form -/

theorem SlotTable.canonicalFrom_mono {t : SlotTable} (h : a ≤ b) (ht : SlotTable.canonicalFrom top d b t = true) :
    SlotTable.canonicalFrom top d a t = true := by
  cases t with
  | nil => rfl
  | cons c t => simp only [SlotTable.canonicalFrom, Bool.and_eq_true, decide_eq_true_eq] at *; grind

theorem SlotTable.canonicalFrom_put {t : SlotTable} (hn : lo ≤ n) (htop : n ≤ top)
    (ht : SlotTable.canonicalFrom top x n t = true) :
    SlotTable.canonicalFrom top d lo (SlotTable.put d n x t) = true := by
  induction t generalizing x with
  | nil => unfold SlotTable.put; split <;> simp_all [SlotTable.canonicalFrom]
  | cons c t ih =>
    obtain ⟨m, y⟩ := c
    simp only [SlotTable.canonicalFrom, Bool.and_eq_true, decide_eq_true_eq] at ht
    obtain ⟨⟨⟨hm, hmt⟩, hy⟩, hc⟩ := ht
    unfold SlotTable.put
    split
    · exact ih (SlotTable.canonicalFrom_mono (by omega) hc)
    · split
      · subst x
        simp only [SlotTable.canonicalFrom, Bool.and_eq_true, decide_eq_true_eq]
        exact ⟨⟨⟨by omega, hmt⟩, hy⟩, hc⟩
      · simp only [SlotTable.canonicalFrom, Bool.and_eq_true, decide_eq_true_eq]
        exact ⟨⟨⟨hn, htop⟩, by assumption⟩, ⟨⟨by omega, hmt⟩, hy⟩, hc⟩

theorem SlotTable.canonicalFrom_modifyInside {t : SlotTable} (hlo : lo ≤ hi) (hhi : hi ≤ top)
    (ht : SlotTable.canonicalFrom top d lo t = true) :
    SlotTable.canonicalFrom top (g d) lo (SlotTable.modifyInside g hi d t) = true := by
  induction t generalizing d lo with
  | nil => exact SlotTable.canonicalFrom_put hlo hhi rfl
  | cons c t ih =>
    obtain ⟨m, y⟩ := c
    have ht' := ht
    simp only [SlotTable.canonicalFrom, Bool.and_eq_true, decide_eq_true_eq] at ht
    unfold SlotTable.modifyInside
    split
    · refine SlotTable.canonicalFrom_put hlo hhi ?_
      simp only [SlotTable.canonicalFrom, Bool.and_eq_true, decide_eq_true_eq]
      exact ⟨⟨⟨by assumption, ht.1.1.2⟩, ht.1.2⟩, ht.2⟩
    · exact SlotTable.canonicalFrom_put ht.1.1.1 ht.1.1.2
        (SlotTable.canonicalFrom_mono (by omega) (ih (lo := m + 1) (by omega) ht.2))

theorem SlotTable.canonicalFrom_modifyFrom {t : SlotTable} (hn : n ≤ lo) (hlo : lo < hi) (hhi : hi ≤ top)
    (ht : SlotTable.canonicalFrom top d n t = true) :
    SlotTable.canonicalFrom top d n (SlotTable.modifyFrom g lo hi d t) = true := by
  induction t generalizing d n with
  | nil => exact SlotTable.canonicalFrom_put hn (by omega) (SlotTable.canonicalFrom_modifyInside (by omega) hhi rfl)
  | cons c t ih =>
    obtain ⟨m, y⟩ := c
    have ht' := ht
    simp only [SlotTable.canonicalFrom, Bool.and_eq_true, decide_eq_true_eq] at ht
    unfold SlotTable.modifyFrom
    split
    · refine SlotTable.canonicalFrom_put hn (by omega) (SlotTable.canonicalFrom_modifyInside (by omega) hhi ?_)
      simp only [SlotTable.canonicalFrom, Bool.and_eq_true, decide_eq_true_eq]
      exact ⟨⟨⟨by omega, ht.1.1.2⟩, ht.1.2⟩, ht.2⟩
    · exact SlotTable.canonicalFrom_put ht.1.1.1 ht.1.1.2
        (ih (by omega) (SlotTable.canonicalFrom_mono (by omega) ht.2))

/-- Every change of a range inside the table keeps the canonical form. -/
theorem SlotTable.wf_modify {t : SlotTable} {base size count : Nat} (h : base + size ≤ count)
    (ht : SlotTable.wf count t = true) : SlotTable.wf count (t.modify base size g) = true := by
  simp only [SlotTable.wf, Bool.and_eq_true, decide_eq_true_eq] at *
  refine ⟨?_, ?_⟩
  · unfold SlotTable.modify
    split
    · exact ht.1
    · exact SlotTable.canonicalFrom_modifyFrom (by omega) (by omega) h ht.1
  · rw [SlotTable.get_modify, if_neg (by omega), ht.2]

theorem SlotTable.wf_nil (count : Nat) : SlotTable.wf count [] = true := by simp [SlotTable.wf, SlotTable.canonicalFrom]

/-- A canonical table reads as the default slot beyond its size. -/
theorem SlotTable.get_beyond {t : SlotTable} {count : Nat} (ht : SlotTable.wf count t = true) (h : count ≤ a) :
    SlotTable.get t a = Slot.default := by
  simp only [SlotTable.wf, Bool.and_eq_true, decide_eq_true_eq] at ht
  rw [← ht.2]
  have key : ∀ (t : SlotTable) (d : Slot) (lo : Nat), SlotTable.canonicalFrom count d lo t = true →
      SlotTable.getFrom d t a = SlotTable.getFrom d t count := by
    intro t
    induction t with
    | nil => intros; rfl
    | cons c t ih =>
      intro d lo hc
      obtain ⟨m, y⟩ := c
      simp only [SlotTable.canonicalFrom, Bool.and_eq_true, decide_eq_true_eq] at hc
      simp only [SlotTable.getFrom_cons]
      rw [if_neg (by omega), if_neg (by omega), ih y _ hc.2]
  exact key t _ _ ht.1

/-- Canonical tables that read alike are equal. -/
theorem SlotTable.ext_of_canonical {s t : SlotTable} (hs : SlotTable.canonicalFrom top d lo s = true)
    (ht : SlotTable.canonicalFrom top d lo t = true)
    (h : ∀ a, SlotTable.getFrom d s a = SlotTable.getFrom d t a) : s = t := by
  induction s generalizing t d lo with
  | nil =>
    cases t with
    | nil => rfl
    | cons c t =>
      obtain ⟨m, y⟩ := c
      simp only [SlotTable.canonicalFrom, Bool.and_eq_true, decide_eq_true_eq] at ht
      have hm := h m
      have : SlotTable.getFrom y t m = y := by
        cases t with
        | nil => rfl
        | cons e t =>
          obtain ⟨p, w⟩ := e
          simp only [SlotTable.canonicalFrom, Bool.and_eq_true, decide_eq_true_eq] at ht
          rw [SlotTable.getFrom_cons, if_pos (by omega)]
      rw [SlotTable.getFrom_nil, SlotTable.getFrom_cons, if_neg (by omega), this] at hm
      exact absurd hm.symm ht.1.2
  | cons c s ih =>
    obtain ⟨m, y⟩ := c
    have first : ∀ (u : SlotTable) (k : Nat) (z : Slot), SlotTable.canonicalFrom top z (k + 1) u = true →
        SlotTable.getFrom z u k = z := by
      intro u k z hu
      cases u with
      | nil => rfl
      | cons e u =>
        simp only [SlotTable.canonicalFrom, Bool.and_eq_true, decide_eq_true_eq] at hu
        obtain ⟨p, w⟩ := e
        rw [SlotTable.getFrom_cons, if_pos (by omega)]
    simp only [SlotTable.canonicalFrom, Bool.and_eq_true, decide_eq_true_eq] at hs
    cases t with
    | nil =>
      have := h m
      rw [SlotTable.getFrom_cons, if_neg (by omega), first s m y hs.2, SlotTable.getFrom_nil] at this
      exact absurd this hs.1.2
    | cons e t =>
      obtain ⟨k, z⟩ := e
      simp only [SlotTable.canonicalFrom, Bool.and_eq_true, decide_eq_true_eq] at ht
      have hm := h m
      have hk := h k
      simp only [SlotTable.getFrom_cons] at hm hk h
      have hmk : m = k := by
        rcases Nat.lt_trichotomy m k with hlt | heq | hgt
        · rw [if_neg (by omega), if_pos hlt, first s m y hs.2] at hm
          exact absurd hm hs.1.2
        · exact heq
        · rw [if_pos hgt, if_neg (by omega), first t k z ht.2] at hk
          exact absurd hk.symm ht.1.2
      subst hmk
      have hyz : y = z := by
        rw [if_neg (by omega), if_neg (by omega), first s m y hs.2, first t m z ht.2] at hm
        exact hm
      subst hyz
      have : s = t := by
        refine ih hs.2 ht.2 fun a => ?_
        by_cases ham : a < m
        · have low : ∀ (u : SlotTable), SlotTable.canonicalFrom top y (m + 1) u = true →
              SlotTable.getFrom y u a = y := by
            intro u hu
            cases u with
            | nil => rfl
            | cons e u =>
              simp only [SlotTable.canonicalFrom, Bool.and_eq_true, decide_eq_true_eq] at hu
              obtain ⟨p, w⟩ := e
              rw [SlotTable.getFrom_cons, if_pos (by omega)]
          rw [low s hs.2, low t ht.2]
        · have := h a
          rwa [if_neg ham, if_neg ham] at this
      rw [this]

end Sys2Proof.Machine
end

