-- ==== Sys2Proof/Tests/Slice0.lean ====
section
/-! SUPPORT. Tests of the model against what the spec writes out (95_test_vectors.md and the examples of the rules),
and for every statement of Certificates/Slice0/Obligations.lean a state and operands that meet its hypotheses. -/

namespace Sys2Proof.Tests

open Sys2Proof.Machine Sys2Proof.Statements

/-! ### Decoding: words written out from the encoding -/

/-- 95_test_vectors.md section 9, legal words: one for every command. -/
theorem test_decode_commands :
    decodeCmd 0x01C0000000000000 = .ok (.rd 0xC000) ∧
    decodeCmd 0x0280000000FF0000 = .ok (.wr 0x8000 0xFF) ∧
    decodeCmd 0x0300100000000000 = .ok (.grd 0x0010) ∧
    decodeCmd 0x0400100000AB0000 = .ok (.gwr 0x0010 0xAB) ∧
    decodeCmd 0x1020000007050200 = .ok (.setrf 0x2000 .rExt 2 7) ∧
    decodeCmd 0x1140140000030300 = .ok (.setwf 0x4014 .wExt 3 0) ∧
    decodeCmd 0x1200100001010100 = .ok (.gsetrf 0x0010 .rPrgFixed 1 1) ∧
    decodeCmd 0x1300000000030300 = .ok (.gsetwf 0x0000 .wExt 3 0) ∧
    decodeCmd 0x2000000000000000 = .ok .init ∧
    decodeCmd 0x2100000000000000 = .ok .apply ∧
    decodeCmd 0x3000000000000000 = .ok .tick ∧
    decodeCmd 0x4000170000010000 = .ok (.classify 23 1) ∧
    decodeCmd 0x41B00ABE1C000000 = .ok (.lookup 0xB00ABE1C) := by decide

/-- 95_test_vectors.md section 9, the words that are not commands. -/
theorem test_refused_words :
    decodeCmd 0x0000000000000000 = .error .unknownOp ∧
    decodeCmd 0x0580000000000000 = .error .unknownOp ∧
    decodeCmd 0x0180000000000001 = .error .reservedNotZero ∧
    decodeCmd 0x0180000000050000 = .error .unusedNotZero ∧
    decodeCmd 0x0180000100000000 = .error .unusedNotZero ∧
    decodeCmd 0x0280000000050100 = .error .unusedNotZero ∧
    decodeCmd 0x0320000000000000 = .error .graphicsAddress ∧
    decodeCmd 0x04FFFF0000AB0000 = .error .graphicsAddress ∧
    decodeCmd 0x1020000000060000 = .error .readKindCode ∧
    decodeCmd 0x1140140000040000 = .error .writeKindCode ∧
    decodeCmd 0x1220000000000000 = .error .graphicsAddress ∧
    decodeCmd 0x2000000000000100 = .error .unusedNotZero ∧
    decodeCmd 0x3000010000000000 = .error .unusedNotZero ∧
    decodeCmd 0x4000170001010000 = .error .unusedNotZero ∧
    decodeCmd 0x41B00ABE1C010000 = .error .unusedNotZero := by decide

/-- 45_mapper_variants.md R242, R247: any address with bit 15 set. -/
theorem test_decode_v0_v1 :
    decodeReg .v0 0x8000 0xFF = some (.v0Prgsel 0x8000 0xFF) ∧
    decodeReg .v0 0xFFFF 0xE3 = some (.v0Prgsel 0xFFFF 0xE3) ∧
    decodeReg .v1 0x8000 0x13 = some (.v1PrgselMirror 0x8000 0x13) ∧
    decodeReg .v1 0xFFFF 0xEF = some (.v1PrgselMirror 0xFFFF 0xEF) ∧
    decodeReg .v0 0x7FFF 0x01 = none ∧ decodeReg .v1 0x7FFF 0x01 = none := by decide

/-- 45_mapper_variants.md R253 to R259, with the addresses of 95_test_vectors.md section 7.3. -/
theorem test_decode_v2 :
    decodeReg .v2 0x8000 0xFF = some (.v2Prg0 0x8000 0xFF) ∧
    decodeReg .v2 0x9FF1 0x00 = some (.v2Mirror 0x9FF1 0x00) ∧
    decodeReg .v2 0x9002 0x03 = some (.v2SwapmodeNop 0x9002 0x03) ∧
    decodeReg .v2 0xAFFC 0xE3 = some (.v2Prg1 0xAFFC 0xE3) ∧
    decodeReg .v2 0xBFFC 0xF7 = some (.v2Chr0Lo 0xBFFC 0xF7) ∧
    decodeReg .v2 0xB001 0xF2 = some (.v2Chr0Hi 0xB001 0xF2) ∧
    decodeReg .v2 0xB002 0x01 = some (.v2Chr1Lo 0xB002 0x01) ∧
    decodeReg .v2 0xB003 0x01 = some (.v2Chr1Hi 0xB003 0x01) ∧
    decodeReg .v2 0xC000 0x0C = some (.v2Chr2Lo 0xC000 0x0C) ∧
    decodeReg .v2 0xC001 0x03 = some (.v2Chr2Hi 0xC001 0x03) ∧
    decodeReg .v2 0xC002 0x09 = some (.v2Chr3Lo 0xC002 0x09) ∧
    decodeReg .v2 0xCFFF 0x09 = some (.v2Chr3Hi 0xCFFF 0x09) ∧
    decodeReg .v2 0xD000 0x3C = some (.v2Chr4Lo 0xD000 0x3C) ∧
    decodeReg .v2 0xD001 0x3C = some (.v2Chr4Hi 0xD001 0x3C) ∧
    decodeReg .v2 0xD002 0x3C = some (.v2Chr5Lo 0xD002 0x3C) ∧
    decodeReg .v2 0xD003 0x3C = some (.v2Chr5Hi 0xD003 0x3C) ∧
    decodeReg .v2 0xE000 0x05 = some (.v2Chr6Lo 0xE000 0x05) ∧
    decodeReg .v2 0xE001 0x05 = some (.v2Chr6Hi 0xE001 0x05) ∧
    decodeReg .v2 0xE002 0x0B = some (.v2Chr7Lo 0xE002 0x0B) ∧
    decodeReg .v2 0xE003 0x0A = some (.v2Chr7Hi 0xE003 0x0A) ∧
    decodeReg .v2 0xF000 0xFA = some (.v2IrqLatchLo 0xF000 0xFA) ∧
    decodeReg .v2 0xF001 0xF5 = some (.v2IrqLatchHi 0xF001 0xF5) ∧
    decodeReg .v2 0xF002 0xFF = some (.v2IrqControl 0xF002 0xFF) ∧
    decodeReg .v2 0xF003 0x00 = some (.v2IrqAck 0xF003 0x00) ∧
    decodeReg .v2 0x7FFF 0x00 = none := by decide

/-- 45_mapper_variants.md R263 to R269, with the addresses of 95_test_vectors.md section 7.4. -/
theorem test_decode_v3 :
    decodeReg .v3 0x8FFF 0x35 = some (.v3Prg0 0x8FFF 0x35) ∧
    decodeReg .v3 0x9000 0xFF = some (.v3Sound9Nop 0x9000 0xFF) ∧
    decodeReg .v3 0xA001 0xFF = some (.v3SoundANop 0xA001 0xFF) ∧
    decodeReg .v3 0xB000 0x00 = some (.v3SoundB0Nop 0xB000 0x00) ∧
    decodeReg .v3 0xB001 0x00 = some (.v3SoundB1Nop 0xB001 0x00) ∧
    decodeReg .v3 0xB002 0x00 = some (.v3SoundB2Nop 0xB002 0x00) ∧
    decodeReg .v3 0xB003 0xFB = some (.v3BankingControl 0xB003 0xFB) ∧
    decodeReg .v3 0xC003 0xFF = some (.v3Prg1 0xC003 0xFF) ∧
    decodeReg .v3 0xD000 0x44 = some (.v3Chr0 0xD000 0x44) ∧
    decodeReg .v3 0xD001 0x44 = some (.v3Chr1 0xD001 0x44) ∧
    decodeReg .v3 0xD002 0x44 = some (.v3Chr2 0xD002 0x44) ∧
    decodeReg .v3 0xD003 0x44 = some (.v3Chr3 0xD003 0x44) ∧
    decodeReg .v3 0xE000 0x9F = some (.v3Chr4 0xE000 0x9F) ∧
    decodeReg .v3 0xE001 0x9F = some (.v3Chr5 0xE001 0x9F) ∧
    decodeReg .v3 0xE002 0x9F = some (.v3Chr6 0xE002 0x9F) ∧
    decodeReg .v3 0xEFFF 0x9F = some (.v3Chr7 0xEFFF 0x9F) ∧
    decodeReg .v3 0xF000 0x02 = some (.v3IrqLatch 0xF000 0x02) ∧
    decodeReg .v3 0xF001 0x06 = some (.v3IrqControl 0xF001 0x06) ∧
    decodeReg .v3 0xF002 0x00 = some (.v3IrqAck 0xF002 0x00) ∧
    decodeReg .v3 0xF003 0xFF = some (.v3UnmatchedF3Nop 0xF003 0xFF) ∧
    decodeReg .v3 0x0000 0x00 = none := by decide

/-- 30_encoding.md R91: most significant byte first; fewer bytes are no instruction. -/
theorem test_decode_bytes :
    decode .cmd [0x02, 0xB0, 0x01, 0x00, 0x00, 0x12, 0x00, 0x00, 0xAA] = .ok (.wr 0xB001 0x12, [0xAA]) ∧
    decode .cmd [0x02, 0xB0, 0x01, 0x00, 0x00, 0x12, 0x00] = .error .truncated ∧
    decode (.regw .v3) [0xB0, 0x03, 0x07] = .ok (.v3BankingControl 0xB003 0x07, []) ∧
    decode (.regw .v3) [0x70, 0x03, 0x07] = .error .noRegister ∧
    encode (.lookup 0xB00ABE1C) = [0x41, 0xB0, 0x0A, 0xBE, 0x1C, 0x00, 0x00, 0x00] ∧
    encode (.setrf 0x2000 .rExt 2 7) = [0x10, 0x20, 0x00, 0x00, 0x07, 0x05, 0x02, 0x00] := by decide

/-- The words the host asks about, numbered as spec/opcode_table.json numbers them. -/
theorem test_table_words :
    decodeTableWord 64 0x1300000000030300 = some (.gsetwf 0x0000 .wExt 3 0) ∧
    decodeTableWord 64 0x0180000000000001 = none ∧
    decodeTableWord 16 0xF003 = some (.v2IrqAck 0xF003 0) ∧
    decodeTableWord 24 0x05B001 = some (.v2Chr0Hi 0xB001 5) := by decide

/-! ### Well-formedness: an ill-formed term for each check -/

/-- A canonical address the row does not match (R108), one for every row: the check refuses it, and its bytes decode
to something else. -/
theorem test_illFormed_first : ∀ i ∈ [
    Instr.v0Prgsel 0x0000 0, .v1PrgselMirror 0x0000 0, .v2Prg0 0x9000 0,
    .v2Mirror 0x9002 0, .v2SwapmodeNop 0x9000 0, .v2Prg1 0xB000 0,
    .v2Chr0Lo 0xB001 0, .v2Chr0Hi 0xB000 0, .v2Chr1Lo 0xB003 0,
    .v2Chr1Hi 0xB002 0, .v2Chr2Lo 0xC001 0, .v2Chr2Hi 0xC000 0,
    .v2Chr3Lo 0xC003 0, .v2Chr3Hi 0xC002 0, .v2Chr4Lo 0xD001 0,
    .v2Chr4Hi 0xD000 0, .v2Chr5Lo 0xD003 0, .v2Chr5Hi 0xD002 0,
    .v2Chr6Lo 0xE001 0, .v2Chr6Hi 0xE000 0, .v2Chr7Lo 0xE003 0,
    .v2Chr7Hi 0xE002 0, .v2IrqLatchLo 0xF001 0],
    i.wellFormed = false ∧ decode i.format (encode i) ≠ .ok (i, []) := by decide

/-- The rest of the rows. -/
theorem test_illFormed_second : ∀ i ∈ [
    Instr.v2IrqLatchHi 0xF000 0, .v2IrqControl 0xF003 0, .v2IrqAck 0xF002 0,
    .v3Prg0 0x9000 0, .v3Sound9Nop 0x8000 0, .v3SoundANop 0xB000 0,
    .v3SoundB0Nop 0xB001 0, .v3SoundB1Nop 0xB000 0, .v3SoundB2Nop 0xB003 0,
    .v3BankingControl 0xB002 0, .v3Prg1 0xD000 0, .v3Chr0 0xD001 0,
    .v3Chr1 0xD000 0, .v3Chr2 0xD003 0, .v3Chr3 0xD002 0,
    .v3Chr4 0xE001 0, .v3Chr5 0xE000 0, .v3Chr6 0xE003 0,
    .v3Chr7 0xE002 0, .v3IrqLatch 0xF001 0, .v3IrqControl 0xF000 0,
    .v3IrqAck 0xF003 0, .v3UnmatchedF3Nop 0xF002 0],
    i.wellFormed = false ∧ decode i.format (encode i) ≠ .ok (i, []) := by decide

/-! ### One operation on a small state -/

/-- A field of the next state. -/
def after {α : Type} (o : Host.Outcome State Fault Refusal) (f : State → α) : Option α :=
  match o with
  | .next t => some (f t)
  | .fault _ => none
  | .refused _ => none

/-- The state after `LOAD` of an image with mapper id `m`, `S` bytes of PRG and `C` bytes of CHR, the listed bytes of
which are not zero. -/
def cart (m : Word) (S C : Nat) (prg chr : Memory) : State :=
  { State.reset with
    rom := { RomImage.empty with prg := ⟨S, prg⟩, chr := ⟨C, chr⟩, mapperId := m }
    pcbClass := (classify m 0).1
    fixedOffset := fixedOffsetOf (variantOf (classify m 0).1) S
    cpuSlots := cpuTableOf (variantOf (classify m 0).1)
    gfxSlots := gfxTableOf false }

theorem cart_inv (m : Word) (S C : Nat) (prg chr : Memory) : (cart m S C prg chr).Inv :=
  ⟨rfl, rfl, Nat.succ_pos _, by simp [cart, State.reset],
    (by decide : ∀ i : Fin 2, (Vector.replicate 2 (0 : Byte))[i].toNat ≤ 0x1F)⟩

/-- A V0 cartridge with the bytes of program P1 that its reads meet. -/
def cartV0 : State := cart 2 0x20000 0x2000 [(0x7FFF, 0x80), (0x14000, 0x41), (0x1FFFC, 0x02)] [(0x1234, 0xD9)]

/-- A V1 cartridge. -/
def cartV1 : State := cart 7 0x8000 0x2000 [] []

/-- A V2 cartridge whose wiring is the identity. -/
def cartV2 : State := cart 23 0x40000 0x20000 [(0x22010, 0x32)] [(0x0C02, 0xF1), (0x1402, 0xE9)]

/-- A V2 cartridge with wiring `A1/A0`. -/
def cartV2swapped : State := cart 25 0x40000 0x20000 [] []

/-- A V3 cartridge. -/
def cartV3 : State := cart 24 0x40000 0x10000 [(0xA010, 0xB0)] [(0x0A34, 0xC1), (0x5234, 0x99)]

/-- P1, line 4: the fixed bank. -/
theorem test_rd_fixed : after (exec (.rd 0xFFFC) cartV0) (·.result) = some (.byte 0x02) := by decide

/-- P1, line 8: `prgReg[0] = 9`, `9 mod 8 = 1`. -/
theorem test_rd_swap : after (exec (.rd 0xBFFF) (cartV0.setPrgReg 0 0x09)) (·.result) = some (.byte 0x80) := by decide

/-- Section 2.3, `S = 0x40000`: the second window of V2 with `prgReg[1] = 0x11`. -/
theorem test_rd_secondWindow :
    after (exec (.rd 0xA010) (cartV2.setPrgReg 1 0x11)) (·.result) = some (.byte 0x32) := by decide

/-- Section 7.1: five bits are implemented. -/
theorem test_wr_register : after (exec (.wr 0x8000 0xFF) cartV0) (·.prgReg[0]) = some 0x1F := by decide

/-- P2, line 4: the wiring `A1/A0` brings `0xB002` to `0xB001`, the high half. -/
theorem test_wr_swizzled :
    after (exec (.wr 0xB002 0x01) (cartV2swapped.setChrReg 0 0x03)) (·.chrReg[0]) = some 0x13 := by decide

/-- Section 2.5, V2: `0x83 mod 128 = 3`. -/
theorem test_grd_v2 : after (exec (.grd 0x1402) (cartV2.setChrReg 5 0x83)) (·.result) = some (.byte 0xF1) := by decide

/-- The example of R267: style 1, `chrReg[2] = 0x21`. -/
theorem test_grd_v3 :
    after (exec (.grd 0x1234) ((cartV3.setStyle 1).setChrReg 2 0x21)) (·.result) = some (.byte 0xC1) := by decide

/-- The example of R158. -/
theorem test_gwr_chrRam :
    after (exec (.gwr 0x1FFF 0x5A) { cartV0 with gfxSlots := gfxTableOf true }) (·.chrRamByte 0x1FFF) = some 0x5A := by
  decide

/-- The example of R129: an external write. -/
theorem test_gwr_external :
    after (exec (.gwr 0 0x12) (cartV0.modifyGfx 0 1 (Slot.setWrite .wExt 3 0))) (·.events)
      = some [.extWrite 3 0 0x0000 0x12] := by decide

/-- Section 3.2: the read half of one slot. -/
theorem test_setrf :
    after (exec (.setrf 0x2002 .rExt 2 2) cartV0) (fun t => (t.cpuSlots.get 0x2002, t.cpuSlots.get 0x2003))
      = some (⟨.rExt, 2, 2, .wIgnore, 0, 0⟩, Slot.default) := by decide

/-- Section 3.2: the write half of one slot, its read half kept. -/
theorem test_setwf :
    after (exec (.setwf 0x8000 .wIgnore 0 0) cartV0) (fun t => (t.cpuSlots.get 0x8000, t.cpuSlots.get 0x8001))
      = some (⟨.rPrgSwap, 1, 0, .wIgnore, 0, 0⟩, ⟨.rPrgSwap, 1, 0, .wReg, 1, 0⟩) := by decide

/-- Section 3.3. -/
theorem test_gsetrf :
    after (exec (.gsetrf 0x0010 .rPrgFixed 1 1) cartV0) (fun t => (t.gfxSlots.get 0x10, t.gfxSlots.get 0x11))
      = some (⟨.rPrgFixed, 1, 1, .wIgnore, 0, 0⟩, ⟨.rChr, 1, 0, .wIgnore, 0, 0⟩) := by decide

/-- Section 3.2, at the last graphics slot. -/
theorem test_gsetwf :
    after (exec (.gsetwf 0x1FFF .wExt 3 0) cartV0) (fun t => (t.gfxSlots.get 0x1FFF, t.gfxSlots.get 0x1FFE))
      = some (⟨.rChr, 1, 7, .wExt, 3, 0⟩, ⟨.rChr, 1, 7, .wIgnore, 0, 0⟩) := by decide

/-- P5, line 1: the override applied, the ids unknown, the ROM undersized. -/
theorem test_init_unknown :
    after (exec .init
        { cartV3 with
          imageIn := { RomImage.empty with prg := ⟨0x1000, []⟩, mapperId := 99, crc := 0xB00ABE1C, chrRamSize := 0x2000 } })
      (fun t => (t.rom.declMirror, t.pcbClass, t.fixedOffset, t.events, t.rom.mapperId))
      = some (.vertical, .fixswap, 0, [.unknownMapper 99 0], 99) := by decide

/-- P3, line 1: class and fixed-bank offset of V3. -/
theorem test_init_v3 :
    after (exec .init { State.reset with imageIn := { RomImage.empty with prg := ⟨0x40000, []⟩, mapperId := 24 } })
      (fun t => (t.pcbClass, t.fixedOffset, t.events)) = some (.vrc6A0A1, 0x3E000, []) := by decide

/-- The example of R151. -/
theorem test_apply_v0 :
    after (exec .apply { cartV0 with cpuSlots := [], gfxSlots := [] })
      (fun t => (t.cpuSlots.get 0x8000, t.cpuSlots.get 0xC000, t.cpuSlots.get 0x7FFF, (t.gfxSlots.get 0x1400).rp))
      = some (⟨.rPrgSwap, 1, 0, .wReg, 1, 0⟩, ⟨.rPrgFixed, 1, 1, .wReg, 1, 0⟩, Slot.default, 5) := by decide

/-- Section 3.1, V3, and the event of step (e). -/
theorem test_apply_v3 :
    after (exec .apply { cartV3 with cpuSlots := [], gfxSlots := [] })
      (fun t => (t.cpuSlots.get 0xBFFF, t.cpuSlots.get 0xDFFF, t.cpuSlots.get 0xE000, t.events))
      = some (⟨.rPrgSwap, 1, 0, .wReg, 1, 0⟩, ⟨.rPrgSwap, 1, 1, .wReg, 1, 0⟩, ⟨.rPrgFixed, 1, 2, .wReg, 1, 0⟩,
        [.ntMode .horizontal]) := by decide

/-- Section 5.2, the last row: underflow, reload, the line rises. -/
theorem test_tick_underflow :
    after (exec .tick { cartV3 with irq := ⟨0xFF, 0, true, true, false, 0⟩ }) (fun t => (t.irq, t.events))
      = some (⟨0xFF, 0xFF, true, true, true, 0⟩, [.irqLine true]) := by decide

/-- P1, line 14: V0 has no IRQ counter. -/
theorem test_tick_v0 :
    after (exec .tick { cartV0 with irq := ⟨0xFF, 0, true, true, false, 0⟩ }) (·.irq)
      = some ⟨0xFF, 0, true, true, false, 0⟩ := by decide

/-- Section 5.3, `N = 3`, ticks 2, 3 and 6. -/
theorem test_tick_scanline :
    Irq.tick 3 ⟨1, 1, true, false, false, 1⟩ = ⟨1, 1, true, false, false, 2⟩ ∧
    Irq.tick 3 ⟨1, 1, true, false, false, 2⟩ = ⟨1, 0, true, false, false, 0⟩ ∧
    Irq.tick 3 ⟨1, 0, true, false, false, 2⟩ = ⟨1, 1, true, false, true, 0⟩ := by decide

/-- Section 6.1. -/
theorem test_classify :
    after (exec (.classify 25 2) State.reset) (·.result) = some (.pcbClass .vrc24A3A2) ∧
    after (exec (.classify 23 4) State.reset) (·.result) = some (.pcbClass .fixswap) := by decide

/-- Section 6.2. -/
theorem test_lookup :
    after (exec (.lookup 0xB00ABE1C) State.reset) (·.result)
      = some (.entry (some ⟨0xB00ABE1C, some .vertical, none, 0xFFFF, 0⟩)) ∧
    after (exec (.lookup 0xB00ABE1D) State.reset) (·.result) = some (.entry none) := by decide

/-! ### The register rows -/

/-- Sections 7.1 and 7.2. -/
theorem test_rows_v0_v1 :
    after (exec (.v0Prgsel 0x8000 0xFF) cartV0) (fun t => (t.prgReg[0], t.mirror)) = some (0x1F, .noOverride) ∧
    after (exec (.v0Prgsel 0xFFFF 0x20) cartV0) (·.prgReg[0]) = some 0x00 ∧
    after (exec (.v1PrgselMirror 0x8000 0x13) cartV1) (fun t => (t.prgReg[0], t.mirror, t.events))
      = some (3, .mode .singleB, [.ntMode .singleB]) ∧
    after (exec (.v1PrgselMirror 0xFFFF 0xEF) cartV1) (fun t => (t.prgReg[0], t.mirror, t.events))
      = some (7, .mode .singleA, [.ntMode .singleA]) := by decide

/-- Section 7.3, PRG and mirroring. -/
theorem test_rows_v2_prg :
    after (exec (.v2Prg0 0x8000 0xFF) cartV2) (·.prgReg[0]) = some 0x1F ∧
    after (exec (.v2Prg1 0xAFFC 0xE3) cartV2) (·.prgReg[1]) = some 0x03 ∧
    after (exec (.v2Mirror 0x9000 0xFE) cartV2) (fun t => (t.mirror, t.events))
      = some (.mode .singleA, [.ntMode .singleA]) ∧
    after (exec (.v2Mirror 0x9FF1 0x00) cartV2) (·.mirror) = some (.mode .vertical) ∧
    after (exec (.v2SwapmodeNop 0x9002 0x03) cartV2) (fun t => decide (t = cartV2)) = some true := by decide

/-- Section 7.3 and R256: each half of each CHR register, from `0x5A` everywhere. -/
theorem test_rows_v2_chr :
    let s := { cartV2 with chrReg := Vector.replicate 8 0x5A }
    after (exec (.v2Chr0Lo 0xBFFC 0xF7) s) (·.chrReg[0]) = some 0x57 ∧
    after (exec (.v2Chr0Hi 0xB001 0xF2) s) (·.chrReg[0]) = some 0x2A ∧
    after (exec (.v2Chr1Lo 0xB002 0x01) s) (·.chrReg[1]) = some 0x51 ∧
    after (exec (.v2Chr1Hi 0xB003 0x01) s) (·.chrReg[1]) = some 0x1A ∧
    after (exec (.v2Chr2Lo 0xC000 0x0C) s) (·.chrReg[2]) = some 0x5C ∧
    after (exec (.v2Chr2Hi 0xC001 0x03) s) (·.chrReg[2]) = some 0x3A ∧
    after (exec (.v2Chr3Lo 0xC002 0x09) s) (·.chrReg[3]) = some 0x59 ∧
    after (exec (.v2Chr3Hi 0xC003 0x09) s) (·.chrReg[3]) = some 0x9A ∧
    after (exec (.v2Chr4Lo 0xD000 0x3C) s) (·.chrReg[4]) = some 0x5C ∧
    after (exec (.v2Chr4Hi 0xD001 0x3C) s) (·.chrReg[4]) = some 0xCA ∧
    after (exec (.v2Chr5Lo 0xD002 0x3C) s) (·.chrReg[5]) = some 0x5C ∧
    after (exec (.v2Chr5Hi 0xD003 0x3C) s) (·.chrReg[5]) = some 0xCA ∧
    after (exec (.v2Chr6Lo 0xE000 0x05) s) (·.chrReg[6]) = some 0x55 ∧
    after (exec (.v2Chr6Hi 0xE001 0x05) s) (·.chrReg[6]) = some 0x5A ∧
    after (exec (.v2Chr7Lo 0xE002 0x0B) s) (·.chrReg[7]) = some 0x5B ∧
    after (exec (.v2Chr7Hi 0xE003 0x0A) s) (·.chrReg[7]) = some 0xAA := by decide

/-- Section 7.3, the IRQ registers. -/
theorem test_rows_v2_irq :
    after (exec (.v2IrqLatchLo 0xF000 0xFA) cartV2) (·.irq.latch) = some 0x0A ∧
    after (exec (.v2IrqLatchHi 0xF001 0xF5) { cartV2 with irq := ⟨0x0A, 0, false, false, false, 0⟩ }) (·.irq.latch)
      = some 0x5A ∧
    after (exec (.v2IrqControl 0xF002 0xFF) { cartV2 with irq := ⟨0x5A, 0, false, false, false, 0⟩ }) (·.irq)
      = some ⟨0x5A, 0x5A, true, true, false, 0⟩ ∧
    after (exec (.v2IrqControl 0xF002 0x01) { cartV2 with irq := ⟨0x5A, 0x5A, true, true, true, 0⟩ })
      (fun t => (t.irq, t.events)) = some (⟨0x5A, 0x5A, false, false, true, 0⟩, []) ∧
    after (exec (.v2IrqAck 0xF003 0x00) { cartV2 with irq := ⟨5, 4, true, true, true, 0⟩ })
      (fun t => (t.irq, t.events)) = some (⟨5, 4, true, true, false, 0⟩, [.irqLine false]) := by decide

/-- Section 7.4, PRG, banking control and the rows without effect. -/
theorem test_rows_v3_prg :
    after (exec (.v3Prg0 0x8000 0xFF) cartV3) (·.prgReg[0]) = some 0x0F ∧
    after (exec (.v3Prg1 0xC003 0xFF) cartV3) (·.prgReg[1]) = some 0x1F ∧
    after (exec (.v3BankingControl 0xB003 0xFB) cartV3) (fun t => (t.style, t.mirror, t.events))
      = some (3, .mode .singleA, [.ntMode .singleA]) ∧
    after (exec (.v3BankingControl 0xB003 0x07) cartV3) (fun t => (t.style, t.mirror)) = some (3, .mode .horizontal) ∧
    ∀ i ∈ [Instr.v3Sound9Nop 0x9000 0xFF, .v3SoundANop 0xA001 0xFF, .v3SoundB0Nop 0xB000 0, .v3SoundB1Nop 0xB001 0,
        .v3SoundB2Nop 0xB002 0, .v3UnmatchedF3Nop 0xF003 0xFF],
      after (exec i cartV3) (fun t => decide (t = cartV3)) = some true := by decide

/-- Section 7.4 and R265: all eight bits of each CHR register. -/
theorem test_rows_v3_chr :
    after (exec (.v3Chr0 0xD000 0x44) cartV3) (·.chrReg[0]) = some 0x44 ∧
    after (exec (.v3Chr1 0xD001 0x44) cartV3) (·.chrReg[1]) = some 0x44 ∧
    after (exec (.v3Chr2 0xD002 0x44) cartV3) (·.chrReg[2]) = some 0x44 ∧
    after (exec (.v3Chr3 0xD003 0x44) cartV3) (·.chrReg[3]) = some 0x44 ∧
    after (exec (.v3Chr4 0xE000 0x9F) cartV3) (·.chrReg[4]) = some 0x9F ∧
    after (exec (.v3Chr5 0xE001 0x9F) cartV3) (·.chrReg[5]) = some 0x9F ∧
    after (exec (.v3Chr6 0xE002 0x9F) cartV3) (·.chrReg[6]) = some 0x9F ∧
    after (exec (.v3Chr7 0xE003 0x9F) cartV3) (·.chrReg[7]) = some 0x9F := by decide

/-- Section 7.4 and program P3, lines 3, 4, 9. -/
theorem test_rows_v3_irq :
    after (exec (.v3IrqLatch 0xF000 0x02) cartV3) (·.irq) = some ⟨2, 0, false, false, false, 0⟩ ∧
    after (exec (.v3IrqControl 0xF001 0x06) { cartV3 with irq := ⟨2, 0, false, false, false, 0⟩ }) (·.irq)
      = some ⟨2, 2, true, true, false, 0⟩ ∧
    after (exec (.v3IrqAck 0xF002 0x00) { cartV3 with irq := ⟨2, 1, true, true, true, 0⟩ })
      (fun t => (t.irq, t.events)) = some (⟨2, 1, true, true, false, 0⟩, [.irqLine false]) := by decide

/-! ### Swizzles and the mirroring selector -/

/-- Section 4, the rows `B001`, `B006`, `F0A5` over the wirings A0/A1, A1/A0, A1/A2, A2/A3, A3/A2, A6/A7. -/
theorem test_swizzle :
    ([Wiring.a0a1, .a1a0, .a1a2, .a2a3, .a3a2, .a6a7].map fun w => (swizzle w 0xB001, swizzle w 0xB006, swizzle w 0xF0A5))
      = [(0xB001, 0xB006, 0xF0A5), (0xB002, 0xB005, 0xF0A6), (0xB004, 0xB003, 0xF0A6), (0xB004, 0xB009, 0xF0A5),
        (0xB008, 0xB006, 0xF0AA), (0xB040, 0xB084, 0xF066)] := by decide

/-- Section 8: the pages of the logical nametables 0 to 3 in each mode. -/
theorem test_nametablePages :
    ([NtMode.horizontal, .vertical, .singleA, .singleB, .fourScreen].map fun m =>
      [(ntPageOf m false false).toNat, (ntPageOf m false true).toNat, (ntPageOf m true false).toNat,
        (ntPageOf m true true).toNat])
      = [[0, 0, 1, 1], [0, 1, 0, 1], [0, 0, 0, 0], [1, 1, 1, 1], [0, 1, 2, 3]] := by decide

/-! ### The step, the placed instruction and the canonical forms -/

/-- A command placed after reset is the one the next step runs. -/
theorem test_step_command :
    after (step (State.reset.withFetchWord 64 0x4000170000010000)) (fun t => (t.result, t.trace))
      = some (.pcbClass .vrc24A0A1, []) := by decide

/-- A register write placed after reset is the one the next step runs. -/
theorem test_step_register :
    after (step (State.reset.withFetchWord 24 0x05B001)) (·.chrReg[0]) = some 0x50 ∧
    after (step (State.reset.withFetchWord 16 0x8000)) (·.trace) = some [] := by decide

/-- The reset state's stores and tables are in their canonical forms, and so are those of a cartridge. -/
theorem test_canonical :
    SlotTable.wf Config.cpuSlotCount State.reset.cpuSlots = true ∧ SlotTable.wf Config.gfxSlotCount State.reset.gfxSlots = true ∧
    Memory.wf Config.chrRamBytes State.reset.chrRam = true ∧ State.reset.rom.wf = true ∧
    SlotTable.wf Config.cpuSlotCount cartV3.cpuSlots = true ∧ cartV3.rom.wf = true ∧
    Memory.wf 8 [(3, 0), (3, 1)] = false ∧ Memory.wf 8 [(8, 0)] = false := by decide

/-! ### Witnesses: for each statement with hypotheses, a state and operands that meet them together -/

/-- A read through the CPU slot of its address. -/
theorem readAccess_cpu (s : State) (a : Word) : ReadAccess s (.rd a) (s.cpuSlots.get a.toNat) a := .inl ⟨rfl, rfl⟩

/-- A write through the CPU slot of its address. -/
theorem writeAccess_cpu (s : State) (a : Word) (v : Byte) : WriteAccess s (.wr a v) (s.cpuSlots.get a.toNat) a v :=
  .inl ⟨rfl, rfl⟩

/-- A read through the graphics slot of its address. -/
theorem readAccess_gfx (s : State) (g : GfxAddr) : ReadAccess s (.grd g) (s.gfxSlots.get g.toNat) (gfxWord g) :=
  .inr ⟨g, rfl, rfl, rfl⟩

/-- A write through the graphics slot of its address. -/
theorem writeAccess_gfx (s : State) (g : GfxAddr) (v : Byte) :
    WriteAccess s (.gwr g v) (s.gfxSlots.get g.toNat) (gfxWord g) v :=
  .inr ⟨g, rfl, rfl, rfl⟩

/-- A CPU write reaches the register map where its slot names `W_REG`. -/
theorem reachesMap_cpu (s : State) (a : Word) (v : Byte) (h : (s.cpuSlots.get a.toNat).wk = .wReg) :
    ReachesMap s (.wr a v) (swizzle s.wiring a) v :=
  ⟨_, a, writeAccess_cpu s a v, h, rfl⟩

theorem witness_StepPerformsTheNextCommand :
    (State.reset.presentCmd 0x3000000000000000).trace = { word := 0x3000000000000000, image := none } :: [] ∧
    decodeCmd 0x3000000000000000 = .ok .tick := by decide

theorem witness_StepWithoutOperationIdles : State.reset.trace = [] := by decide

/-- A word a field rules out, one that none does, and the first as the next operation. -/
theorem witness_WordsThatAreNotCommands :
    NotACommand 0x1020000000060000 ∧ ¬ NotACommand 0x1020000000050000 ∧
    (State.reset.presentCmd 0x1020000000060000).trace = { word := 0x1020000000060000, image := none } :: [] :=
  ⟨by simp [NotACommand], by simp [NotACommand], by decide⟩

theorem witness_DecodeOfEncode :
    (Instr.rd 0xC000).wellFormed = true ∧ (Instr.v2Chr0Hi 0xB001 5).wellFormed = true ∧
    (Instr.v0Prgsel 0xFFFF 0).wellFormed = true := by decide

theorem witness_EncodeOfDecode :
    decode .cmd [0x30, 0, 0, 0, 0, 0, 0, 0, 0x77] = .ok (.tick, [0x77]) ∧
    decode (.regw .v2) [0xB0, 0x01, 5] = .ok (.v2Chr0Hi 0xB001 5, []) := by decide

theorem witness_RegisterRowsMatchExactly :
    decodeReg .v2 0xB001 5 = some (.v2Chr0Hi 0xB001 5) ∧
    (let i := Instr.v2Chr0Hi 0xB001 5;
      i.format = i.format ∧ i.regWord = i.regWord ∧ i.regWord.isSome ∧ i.wellFormed = true) := by decide

theorem witness_BusReadsAnswerAByte :
    ReadAccess cartV0 (.rd 0x8000) (cartV0.cpuSlots.get 0x8000) 0x8000 ∧
    ReadAccess cartV0 (.grd 0x1FFF) (cartV0.gfxSlots.get 0x1FFF) (gfxWord 0x1FFF) :=
  ⟨readAccess_cpu cartV0 0x8000, readAccess_gfx cartV0 0x1FFF⟩

theorem witness_RomReadsInBounds :
    cartV0.Inv ∧ cartV0.readSource .rPrgFixed 1 1 0xFFFF = .prg 0x1FFFF ∧
    cartV0.readSource .rChr 1 7 0x1FFF = .chr 0x1FFF ∧ cartV0.readSource .rChrRam 1 0 0xFFFF = .chrRam 8191 ∧
    (let s := cart 2 0 0 [] []; s.Inv ∧ s.rom.prg.length = 0 ∧ s.rom.chr.length = 0) :=
  ⟨cart_inv _ _ _ _ _, by decide, by decide, by decide, cart_inv _ _ _ _ _, rfl, rfl⟩

theorem witness_OpenBusAndExternalReads :
    ReadAccess cartV0 (.rd 0x7FFF) (cartV0.cpuSlots.get 0x7FFF) 0x7FFF ∧ (cartV0.cpuSlots.get 0x7FFF).rk = .rOpen ∧
    (let s := cartV0.modifyCpu 0x2002 1 (Slot.setRead .rExt 2 2);
      ReadAccess s (.rd 0x2002) (s.cpuSlots.get 0x2002) 0x2002 ∧ (s.cpuSlots.get 0x2002).rk = .rExt) :=
  ⟨readAccess_cpu _ 0x7FFF, by decide, readAccess_cpu _ 0x2002, by decide⟩

/-- The clauses of the fixed-bank read: the last address of the window, and an empty ROM. -/
theorem witness_FixedBankRead :
    (cartV0.Inv ∧ ReadAccess cartV0 (.rd 0xFFFF) (cartV0.cpuSlots.get 0xFFFF) 0xFFFF ∧
      (cartV0.cpuSlots.get 0xFFFF).rk = .rPrgFixed ∧
      (prgWin cartV0.variant)[(cartV0.cpuSlots.get 0xFFFF).rp.toNat]? = some ⟨0xC000, 0x4000, .fixed⟩ ∧
      InWindow ⟨0xC000, 0x4000, .fixed⟩ 0xFFFF ∧ cartV0.rom.prg.length ≠ 0) ∧
    (let s := cart 2 0 0 [] [];
      s.Inv ∧ ReadAccess s (.rd 0xC000) (s.cpuSlots.get 0xC000) 0xC000 ∧ (s.cpuSlots.get 0xC000).rk = .rPrgFixed ∧
      ∀ w, (prgWin s.variant)[(s.cpuSlots.get 0xC000).rp.toNat]? = some w → w.kind = .fixed →
        ¬ (InWindow w 0xC000 ∧ s.rom.prg.length ≠ 0)) :=
  ⟨⟨cart_inv _ _ _ _ _, readAccess_cpu _ 0xFFFF, by decide, by decide, by unfold InWindow; decide, by decide⟩,
    cart_inv _ _ _ _ _, readAccess_cpu _ 0xC000, by decide, fun _ _ _ h => h.2 rfl⟩

/-- The clauses of the swappable-bank read: the last address of the window, and an empty ROM. -/
theorem witness_SwappableBankRead :
    (ReadAccess cartV0 (.rd 0xBFFF) (cartV0.cpuSlots.get 0xBFFF) 0xBFFF ∧
      (cartV0.cpuSlots.get 0xBFFF).rk = .rPrgSwap ∧
      (prgWin cartV0.variant)[(cartV0.cpuSlots.get 0xBFFF).rp.toNat]? = some ⟨0x8000, 0x4000, .swap 0⟩ ∧
      InWindow ⟨0x8000, 0x4000, .swap 0⟩ 0xBFFF ∧ cartV0.rom.prg.length ≠ 0) ∧
    (let s := cart 2 0 0 [] [];
      ReadAccess s (.rd 0x8000) (s.cpuSlots.get 0x8000) 0x8000 ∧ (s.cpuSlots.get 0x8000).rk = .rPrgSwap ∧
      ∀ w r, (prgWin s.variant)[(s.cpuSlots.get 0x8000).rp.toNat]? = some w → w.kind = .swap r →
        ¬ (InWindow w 0x8000 ∧ s.rom.prg.length ≠ 0)) :=
  ⟨⟨readAccess_cpu _ 0xBFFF, by decide, by decide, by unfold InWindow; decide, by decide⟩,
    readAccess_cpu _ 0x8000, by decide, fun _ _ _ _ h => h.2 rfl⟩

theorem witness_SwappableReadClosedForms :
    ReadAccess cartV0 (.rd 0x8000) (cartV0.cpuSlots.get 0x8000) 0x8000 ∧ (cartV0.cpuSlots.get 0x8000).rk = .rPrgSwap ∧
    (prgWin cartV0.variant)[(cartV0.cpuSlots.get 0x8000).rp.toNat]? = some ⟨0x8000, 0x4000, .swap 0⟩ ∧
    InWindow ⟨0x8000, 0x4000, .swap 0⟩ 0x8000 ∧ cartV0.rom.prg.length = 8 * 0x4000 ∧ 0 < 8 :=
  ⟨readAccess_cpu _ 0x8000, by decide, by decide, by unfold InWindow; decide, by decide⟩

/-- Both branches: the last graphics address of a cartridge, and an empty CHR ROM. -/
theorem witness_ChrRomRead :
    (ReadAccess cartV3 (.grd 0x1FFF) (cartV3.gfxSlots.get 0x1FFF) (gfxWord 0x1FFF) ∧
      (cartV3.gfxSlots.get 0x1FFF).rk = .rChr ∧ (cartV3.gfxSlots.get 0x1FFF).rp = 7 ∧ cartV3.rom.chr.length ≠ 0) ∧
    (let s := cart 2 0x4000 0 [] [];
      ReadAccess s (.grd 0) (s.gfxSlots.get 0) (gfxWord 0) ∧ (s.gfxSlots.get 0).rk = .rChr ∧ s.rom.chr.length = 0) :=
  ⟨⟨readAccess_gfx _ 0x1FFF, by decide⟩, readAccess_gfx _ 0, by decide⟩

theorem witness_ChrRamAccess :
    let s := { cartV0 with gfxSlots := gfxTableOf true }
    ReadAccess s (.grd 0x1FFF) (s.gfxSlots.get 0x1FFF) (gfxWord 0x1FFF) ∧ (s.gfxSlots.get 0x1FFF).rk = .rChrRam ∧
    WriteAccess s (.gwr 0x1FFF 5) (s.gfxSlots.get 0x1FFF) (gfxWord 0x1FFF) 5 ∧ (s.gfxSlots.get 0x1FFF).wk = .wChrRam :=
  ⟨readAccess_gfx _ 0x1FFF, by decide, writeAccess_gfx _ 0x1FFF 5, by decide⟩

theorem witness_IgnoredAndExternalWrites :
    WriteAccess cartV0 (.wr 0x7FFF 1) (cartV0.cpuSlots.get 0x7FFF) 0x7FFF 1 ∧ (cartV0.cpuSlots.get 0x7FFF).wk = .wIgnore ∧
    (let s := cartV0.modifyCpu 0x4014 1 (Slot.setWrite .wExt 3 0);
      WriteAccess s (.wr 0x4014 2) (s.cpuSlots.get 0x4014) 0x4014 2 ∧ (s.cpuSlots.get 0x4014).wk = .wExt) :=
  ⟨writeAccess_cpu _ 0x7FFF 1, by decide, writeAccess_cpu _ 0x4014 2, by decide⟩

/-- Both clauses: a canonical address with a row, and one that no register matches. -/
theorem witness_RegisterWriteReachesItsRow :
    (ReachesMap cartV2 (.wr 0xB001 5) 0xB001 5 ∧ decodeReg cartV2.variant 0xB001 5 = some (.v2Chr0Hi 0xB001 5)) ∧
    (let s := cartV2.modifyCpu 0x7FFF 1 (Slot.setWrite .wReg 1 0);
      ReachesMap s (.wr 0x7FFF 5) 0x7FFF 5 ∧ decodeReg s.variant 0x7FFF 5 = none) :=
  ⟨⟨reachesMap_cpu cartV2 0xB001 5 (by decide), by decide⟩,
    reachesMap_cpu (cartV2.modifyCpu 0x7FFF 1 (Slot.setWrite .wReg 1 0)) 0x7FFF 5 (by decide), by decide⟩

/-- Each clause of R134: a PRG kind and `W_REG` on the graphics table, `R_CHR` on the CPU table at and beyond the end
of its slot, and CHR-RAM on the CPU table. -/
theorem witness_KindsOnTheOtherTable :
    ((cartV0.modifyGfx 0x1FFF 1 (Slot.setRead .rPrgFixed 1 1)).gfxSlots.get (0x1FFF : GfxAddr).toNat).rk = .rPrgFixed ∧
    ((cartV0.modifyGfx 0x10 1 (Slot.setWrite .wReg 1 0)).gfxSlots.get (0x10 : GfxAddr).toNat).wk = .wReg ∧
    (let x := (cartV0.modifyCpu 0x2000 1 (Slot.setRead .rChr 1 8)).cpuSlots.get (0x2000 : Word).toNat;
      x.rk = .rChr ∧ ¬ ((0x2000 : Word).toNat < 0x2000 ∧ (0x2000 : Word).toNat / 1024 = x.rp.toNat)) ∧
    (let s := cartV0.modifyCpu 0x1FFF 1 (Slot.setRead .rChr 1 7);
      (s.cpuSlots.get (0x1FFF : Word).toNat).rk = .rChr ∧ (0x1FFF : Word).toNat < 0x2000 ∧
      (0x1FFF : Word).toNat / 1024 = (s.cpuSlots.get (0x1FFF : Word).toNat).rp.toNat ∧ s.rom.chr.length ≠ 0) ∧
    ((cartV0.modifyCpu 0x4005 1 (Slot.setRead .rChrRam 1 0)).cpuSlots.get (0x4005 : Word).toNat).rk = .rChrRam ∧
    ((cartV0.modifyCpu 0x6005 1 (Slot.setWrite .wChrRam 1 0)).cpuSlots.get (0x6005 : Word).toNat).wk = .wChrRam := by
  decide

theorem witness_TablesChangeOnlyByHost :
    exec .tick cartV0 = .next cartV0 ∧ (∀ a k o p, Instr.tick ≠ .setrf a k o p) ∧ (∀ a k o p, Instr.tick ≠ .setwf a k o p) ∧
    (∀ a k o p, Instr.tick ≠ .gsetrf a k o p) ∧ (∀ a k o p, Instr.tick ≠ .gsetwf a k o p) ∧ Instr.tick ≠ .apply :=
  ⟨rfl, nofun, nofun, nofun, nofun, nofun⟩

/-- Both clauses: a register write that changes a bank register, and a CHR-RAM write that changes a written byte. -/
theorem witness_RegisterAndChrRamWriters :
    (∃ t, exec (.v0Prgsel 0x8000 5) cartV0 = .next t ∧ Instr.v0Prgsel 0x8000 5 ≠ .init ∧ t.prgReg ≠ cartV0.prgReg) ∧
    (let s := ({ cartV0 with gfxSlots := gfxTableOf true } : State).writeChrRam 0x1FFF 4;
      ∃ t, exec (.gwr 0x1FFF 5) s = .next t ∧ Instr.gwr 0x1FFF 5 ≠ .init ∧ t.chrRamByte 0x1FFF ≠ s.chrRamByte 0x1FFF) :=
  ⟨⟨_, rfl, nofun, by decide⟩, _, rfl, nofun, by decide⟩

/-- The ends of the ranges of addresses. -/
theorem witness_ApplyInstallsTheTables : (0 : Nat) < 65536 ∧ 65535 < 65536 ∧ (0 : Nat) < 8192 ∧ 8191 < 8192 := by decide

theorem witness_ApplyIsIdempotent :
    ∃ t t' u, exec .apply cartV0 = .next t ∧ exec .apply (cartV0.setPrgReg 0 5) = .next t' ∧
      cartV0.pcbClass = (cartV0.setPrgReg 0 5).pcbClass ∧ cartV0.rom.chrRamSize = (cartV0.setPrgReg 0 5).rom.chrRamSize ∧
      exec .apply t = .next u ∧ ReadAccess t (.rd 0x8000) (t.cpuSlots.get 0x8000) 0x8000 :=
  ⟨_, _, _, rfl, rfl, rfl, rfl, rfl, readAccess_cpu _ 0x8000⟩

theorem witness_OnlyInitWritesTheImage : exec .tick cartV0 = .next cartV0 ∧ Instr.tick ≠ .init := ⟨rfl, nofun⟩

theorem witness_OverrideBeatsTheHeader :
    ({ cartV0 with imageIn := { RomImage.empty with crc := 0xB00ABE1C } } : State).imageIn.crc = 0xB00ABE1C := by decide

theorem witness_UnknownMapperFallsBack :
    let s := { State.reset with imageIn := { RomImage.empty with mapperId := 99 } }
    lookupOverride s.imageIn.crc = none ∧ s.irq.pending = false ∧
    ∀ r ∈ pcbTable, ¬ (r.mapperId = s.imageIn.mapperId ∧ r.subMapperId = s.imageIn.subMapperId) := by decide

/-- Both clauses: the last row of the table, and a known mapper with a sub-mapper the table lacks. -/
theorem witness_ClassifyAnswersTheFirstRow :
    (pcbTable = pcbTable.take 16 ++ ⟨26, 0, .vrc6A1A0⟩ :: [] ∧
      ∀ q ∈ pcbTable.take 16, ¬ (q.mapperId = 26 ∧ q.subMapperId = 0)) ∧
    ∀ q ∈ pcbTable, ¬ (q.mapperId = 23 ∧ q.subMapperId = 4) := by decide

/-- Both clauses: R227's table of two entries of one checksum, and a checksum no entry has. -/
theorem witness_LookupAnswersTheFirstEntry :
    (let e : OverrideEntry := ⟨7, some .vertical, none, 0xFFFF, 0⟩;
      let e' : OverrideEntry := ⟨7, some .horizontal, none, 0xFFFF, 0⟩;
      [e, e'] = [] ++ e :: [e'] ∧ ∀ q ∈ ([] : List OverrideEntry), q.checksum ≠ e.checksum) ∧
    ∀ q ∈ overrideTable, q.checksum ≠ 0xB00ABE1D := by decide

theorem witness_SwizzleBits :
    (0 : Nat) < 16 ∧ 15 < 16 ∧ Wiring.a6a7 ≠ .a1a2 ∧ Wiring.a0a1 ≠ .a1a2 ∧ cartV0.variant = .v0 ∧ cartV1.variant = .v1 ∧
    (let f : Fin 16 → Fin 16 := fun n => n + 1; f 0 = 1 ∧ f 1 = 2) := by
  decide

theorem witness_SwizzlePermutesWithinTheWindow : swizzle .a1a2 0xBFFF = swizzle .a1a2 0xBFFF := by decide

/-- Both branches: an address of register space, and one below it. -/
theorem witness_V0RegisterMap :
    (cartV0.variant = .v0 ∧ ReachesMap cartV0 (.wr 0x8000 0xFF) 0x8000 0xFF) ∧
    (let s := cartV0.modifyCpu 0x7FFF 1 (Slot.setWrite .wReg 1 0);
      s.variant = .v0 ∧ ReachesMap s (.wr 0x7FFF 1) 0x7FFF 1) :=
  ⟨⟨rfl, reachesMap_cpu cartV0 0x8000 0xFF (by decide)⟩, rfl,
    reachesMap_cpu (cartV0.modifyCpu 0x7FFF 1 (Slot.setWrite .wReg 1 0)) 0x7FFF 1 (by decide)⟩

theorem witness_V1RegisterMap :
    (cartV1.variant = .v1 ∧ ReachesMap cartV1 (.wr 0xFFFF 0xEF) 0xFFFF 0xEF) ∧
    (let s := cartV1.modifyCpu 0x7FFF 1 (Slot.setWrite .wReg 1 0);
      s.variant = .v1 ∧ ReachesMap s (.wr 0x7FFF 1) 0x7FFF 1) :=
  ⟨⟨rfl, reachesMap_cpu cartV1 0xFFFF 0xEF (by decide)⟩, rfl,
    reachesMap_cpu (cartV1.modifyCpu 0x7FFF 1 (Slot.setWrite .wReg 1 0)) 0x7FFF 1 (by decide)⟩

/-- Each clause, at an end of its range. -/
theorem witness_V2PrgAndMirrorMap :
    cartV2.variant = .v2 ∧
    (ReachesMap cartV2 (.wr 0x8FFF 1) 0x8FFF 1 ∧ (0x8FFF : Word).extractLsb' 12 4 = 0x8) ∧
    (ReachesMap cartV2 (.wr 0x9FFD 1) 0x9FFD 1 ∧ (0x9FFD : Word).extractLsb' 12 4 = 0x9 ∧ (0x9FFD : Word).getLsbD 1 = false) ∧
    (ReachesMap cartV2 (.wr 0x9002 1) 0x9002 1 ∧ (0x9002 : Word).extractLsb' 12 4 = 0x9 ∧ (0x9002 : Word).getLsbD 1 = true) ∧
    (ReachesMap cartV2 (.wr 0xA000 1) 0xA000 1 ∧ (0xA000 : Word).extractLsb' 12 4 = 0xA) :=
  ⟨rfl, ⟨reachesMap_cpu cartV2 0x8FFF 1 (by decide), by decide⟩, ⟨reachesMap_cpu cartV2 0x9FFD 1 (by decide), by decide⟩,
    ⟨reachesMap_cpu cartV2 0x9002 1 (by decide), by decide⟩, ⟨reachesMap_cpu cartV2 0xA000 1 (by decide), by decide⟩⟩

/-- The first and the last CHR register. -/
theorem witness_V2ChrMap :
    cartV2.variant = .v2 ∧
    (ReachesMap cartV2 (.wr 0xB000 7) 0xB000 7 ∧ (0xB000 : Word).toNat / 4096 = 0xB ∧ (0xB000 : Word).toNat % 4 = 0) ∧
    (ReachesMap cartV2 (.wr 0xEFFF 7) 0xEFFF 7 ∧ (0xEFFF : Word).toNat / 4096 = 0xE ∧ (0xEFFF : Word).toNat % 4 = 3) :=
  ⟨rfl, ⟨reachesMap_cpu cartV2 0xB000 7 (by decide), by decide⟩, ⟨reachesMap_cpu cartV2 0xEFFF 7 (by decide), by decide⟩⟩

theorem witness_V2IrqMap :
    cartV2.variant = .v2 ∧
    (ReachesMap cartV2 (.wr 0xF000 6) 0xF000 6 ∧ (0xF000 : Word).extractLsb' 12 4 = 0xF ∧ (0xF000 : Word).extractLsb' 0 2 = 0) ∧
    (ReachesMap cartV2 (.wr 0xFFF1 6) 0xFFF1 6 ∧ (0xFFF1 : Word).extractLsb' 12 4 = 0xF ∧ (0xFFF1 : Word).extractLsb' 0 2 = 1) ∧
    (ReachesMap cartV2 (.wr 0xF002 6) 0xF002 6 ∧ (0xF002 : Word).extractLsb' 12 4 = 0xF ∧ (0xF002 : Word).extractLsb' 0 2 = 2) ∧
    (ReachesMap cartV2 (.wr 0xFFFF 6) 0xFFFF 6 ∧ (0xFFFF : Word).extractLsb' 12 4 = 0xF ∧ (0xFFFF : Word).extractLsb' 0 2 = 3) :=
  ⟨rfl, ⟨reachesMap_cpu cartV2 0xF000 6 (by decide), by decide⟩,
    ⟨reachesMap_cpu cartV2 0xFFF1 6 (by decide), by decide⟩,
    ⟨reachesMap_cpu cartV2 0xF002 6 (by decide), by decide⟩,
    ⟨reachesMap_cpu cartV2 0xFFFF 6 (by decide), by decide⟩⟩

/-- Each clause: both PRG registers, and the sound registers at the ends of their ranges. -/
theorem witness_V3PrgAndSoundMap :
    cartV3.variant = .v3 ∧
    (ReachesMap cartV3 (.wr 0x8FFF 1) 0x8FFF 1 ∧ (0x8FFF : Word).extractLsb' 12 4 = 0x8) ∧
    (ReachesMap cartV3 (.wr 0xC000 1) 0xC000 1 ∧ (0xC000 : Word).extractLsb' 12 4 = 0xC) ∧
    (ReachesMap cartV3 (.wr 0x9000 1) 0x9000 1 ∧ (0x9000 : Word).extractLsb' 12 4 = 0x9) ∧
    (ReachesMap cartV3 (.wr 0xAFFF 1) 0xAFFF 1 ∧ (0xAFFF : Word).extractLsb' 12 4 = 0xA) ∧
    (ReachesMap cartV3 (.wr 0xB002 1) 0xB002 1 ∧ (0xB002 : Word).extractLsb' 12 4 = 0xB ∧
      (0xB002 : Word).extractLsb' 0 2 ≠ 3) :=
  ⟨rfl, ⟨reachesMap_cpu cartV3 0x8FFF 1 (by decide), by decide⟩, ⟨reachesMap_cpu cartV3 0xC000 1 (by decide), by decide⟩,
    ⟨reachesMap_cpu cartV3 0x9000 1 (by decide), by decide⟩, ⟨reachesMap_cpu cartV3 0xAFFF 1 (by decide), by decide⟩,
    ⟨reachesMap_cpu cartV3 0xB002 1 (by decide), by decide⟩⟩

/-- Each clause: the first and the last CHR register, and the banking control. -/
theorem witness_V3ChrAndBankingMap :
    cartV3.variant = .v3 ∧
    (ReachesMap cartV3 (.wr 0xD000 7) 0xD000 7 ∧ (0xD000 : Word).toNat / 4096 = 0xD ∧ (0xD000 : Word).toNat % 4 = 0) ∧
    (ReachesMap cartV3 (.wr 0xEFFF 7) 0xEFFF 7 ∧ (0xEFFF : Word).toNat / 4096 = 0xE ∧ (0xEFFF : Word).toNat % 4 = 3) ∧
    (ReachesMap cartV3 (.wr 0xB003 7) 0xB003 7 ∧ (0xB003 : Word).toNat / 4096 = 0xB ∧ (0xB003 : Word).toNat % 4 = 3) :=
  ⟨rfl, ⟨reachesMap_cpu cartV3 0xD000 7 (by decide), by decide⟩, ⟨reachesMap_cpu cartV3 0xEFFF 7 (by decide), by decide⟩,
    ⟨reachesMap_cpu cartV3 0xB003 7 (by decide), by decide⟩⟩

theorem witness_V3IrqMap :
    cartV3.variant = .v3 ∧
    (ReachesMap cartV3 (.wr 0xF000 6) 0xF000 6 ∧ (0xF000 : Word).extractLsb' 12 4 = 0xF ∧ (0xF000 : Word).extractLsb' 0 2 = 0) ∧
    (ReachesMap cartV3 (.wr 0xFFF1 6) 0xFFF1 6 ∧ (0xFFF1 : Word).extractLsb' 12 4 = 0xF ∧ (0xFFF1 : Word).extractLsb' 0 2 = 1) ∧
    (ReachesMap cartV3 (.wr 0xF002 6) 0xF002 6 ∧ (0xF002 : Word).extractLsb' 12 4 = 0xF ∧ (0xF002 : Word).extractLsb' 0 2 = 2) ∧
    (ReachesMap cartV3 (.wr 0xFFFF 6) 0xFFFF 6 ∧ (0xFFFF : Word).extractLsb' 12 4 = 0xF ∧ (0xFFFF : Word).extractLsb' 0 2 = 3) :=
  ⟨rfl, ⟨reachesMap_cpu cartV3 0xF000 6 (by decide), by decide⟩,
    ⟨reachesMap_cpu cartV3 0xFFF1 6 (by decide), by decide⟩,
    ⟨reachesMap_cpu cartV3 0xF002 6 (by decide), by decide⟩,
    ⟨reachesMap_cpu cartV3 0xFFFF 6 (by decide), by decide⟩⟩

/-- The last row of the list is in it. -/
theorem witness_V3ChrAndNopRows :
    Instr.v3UnmatchedF3Nop 0xF003 1 ∈ [Instr.v3Sound9Nop 0xF003 1, .v3SoundANop 0xF003 1, .v3SoundB0Nop 0xF003 1,
      .v3SoundB1Nop 0xF003 1, .v3SoundB2Nop 0xF003 1, .v3UnmatchedF3Nop 0xF003 1] := by decide

/-- A row of each list is in it. -/
theorem witness_IrqRows :
    Instr.v3IrqControl 0xF001 6 ∈ [Instr.v2IrqControl 0xF001 6, .v3IrqControl 0xF001 6] ∧
    Instr.v3IrqAck 0xF002 6 ∈ [Instr.v2IrqAck 0xF002 6, .v3IrqAck 0xF002 6] := by decide

/-- Each clause: no counter; disabled; a phase that is not the last; a count in cycle mode; the last phase. -/
theorem witness_TickCounts :
    (cartV0.variant = .v0 ∨ cartV0.variant = .v1) ∧ (cartV2.variant = .v2 ∨ cartV2.variant = .v3) ∧
    cartV2.irq.enabled = false ∧
    (let s := { cartV2 with irq := ⟨1, 1, true, false, false, Config.irqDivN⟩ };
      s.irq.enabled = true ∧ s.irq.cycleMode = false ∧ s.irq.divPhase ≠ Config.irqDivN - 1) ∧
    (let s := { cartV2 with irq := ⟨1, 0, true, true, false, 0⟩ };
      s.irq.enabled = true ∧ s.irq.cycleMode = true) ∧
    (let s := { cartV2 with irq := ⟨1, 0, true, false, false, Config.irqDivN - 1⟩ };
      s.irq.enabled = true ∧ s.irq.divPhase = Config.irqDivN - 1) :=
  ⟨.inl rfl, .inl rfl, rfl, ⟨rfl, rfl, Nat.succ_ne_self Config.irqDivPred⟩, ⟨rfl, rfl⟩, rfl, rfl⟩

/-- Both movements of the line: a `TICK` that underflows, and an acknowledge. -/
theorem witness_LineMovesOnlyByRule :
    (∃ t, exec .tick { cartV2 with irq := ⟨7, 0, true, true, false, 0⟩ } = .next t ∧
      ({ cartV2 with irq := ⟨7, 0, true, true, false, 0⟩ } : State).irqLine = false ∧ t.irqLine = true) ∧
    ∃ t, exec (.v2IrqAck 0xF003 0) { cartV2 with irq := ⟨7, 4, true, true, true, 0⟩ } = .next t ∧
      ({ cartV2 with irq := ⟨7, 4, true, true, true, 0⟩ } : State).irqLine = true ∧ t.irqLine = false :=
  ⟨⟨_, rfl, rfl, rfl⟩, _, rfl, rfl, rfl⟩

theorem witness_CycleModeCadence :
    (cartV2.variant = .v2 ∧ Instr.v2IrqControl 0xF002 0x06 = .v2IrqControl 0xF002 0x06) ∧
    (cartV3.variant = .v3 ∧ Instr.v3IrqControl 0xF001 0x06 = .v3IrqControl 0xF001 0x06) ∧
    (0x06 : Byte).getLsbD 1 = true ∧ (0x06 : Byte).getLsbD 2 = true ∧
    (let s := { cartV2 with irq := ⟨7, 4, true, true, true, 0⟩ };
      s.variant = .v2 ∧ s.irq.enabled = true ∧ s.irq.cycleMode = true ∧ 4 ≤ s.irq.counter.toNat) := by decide

theorem witness_ScanlineModeCadence :
    (cartV2.variant = .v2 ∧ Instr.v2IrqControl 0xF002 0x02 = .v2IrqControl 0xF002 0x02) ∧
    (0x02 : Byte).getLsbD 1 = true ∧ (0x02 : Byte).getLsbD 2 = false ∧
    (let s := { cartV2 with irq := ⟨1, 1, true, false, false, 0⟩ };
      s.variant = .v2 ∧ s.irq.enabled = true ∧ s.irq.cycleMode = false ∧ s.irq.divPhase = 0) := by decide

theorem witness_EffectiveMirroring :
    cartV1.mirror = .noOverride ∧ ({ cartV1 with mirror := .mode .singleB } : State).mirror = .mode .singleB := by decide

/-- Both parts: a register write and `INIT` that change the mode, and the three rows. -/
theorem witness_MirrorWritersOnly :
    (∃ t, exec (.v2Mirror 0x9000 1) cartV2 = .next t ∧ t.mirror ≠ cartV2.mirror) ∧
    (∃ t, exec .init { cartV2 with mirror := .mode .singleA } = .next t ∧ t.mirror ≠ .mode .singleA) ∧
    Instr.v3BankingControl 0xB003 7 ∈
      [Instr.v1PrgselMirror 0xB003 7, .v2Mirror 0xB003 7, .v3BankingControl 0xB003 7] :=
  ⟨⟨_, rfl, by decide⟩, ⟨_, rfl, nofun⟩, by decide⟩

/-- Both clauses, in every variant: the tables of `APPLY`, the ends of register space and of a window, ROMs that are not
empty. -/
theorem witness_BankWriteSeenByNextRead :
    (∀ s ∈ [cartV0, cartV1, cartV2, cartV3],
      s.cpuSlots = cpuTableOf s.variant ∧ s.rom.prg.length ≠ 0 ∧ s.gfxSlots = gfxTableOf false ∧ s.rom.chr.length ≠ 0) ∧
    0x8000 ≤ (0x8000 : Word).toNat ∧ 0x8000 ≤ (0xFFFF : Word).toNat ∧
    (⟨0xC000, 0x2000, .swap 1⟩ : PrgWindow) ∈ prgWin cartV3.variant ∧
    InWindow ⟨0xC000, 0x2000, .swap 1⟩ 0xC000 ∧ InWindow ⟨0xC000, 0x2000, .swap 1⟩ 0xDFFF := by
  unfold InWindow; decide

theorem witness_PowerOn :
    ReadAccess State.reset (.rd 0xFFFC) Slot.default 0xFFFC ∧ WriteAccess State.reset (.wr 0x8000 1) Slot.default 0x8000 1 :=
  ⟨.inl ⟨rfl, rfl⟩, .inl ⟨rfl, rfl⟩⟩

theorem witness_StepKeepsTheInvariant :
    (cartV2.presentCmd 0x3000000000000000).Inv ∧ ∃ t, step (cartV2.presentCmd 0x3000000000000000) = .next t :=
  ⟨⟨rfl, rfl, Nat.succ_pos _, by simp [State.presentCmd, State.present, cartV2, cart, State.reset],
    (by decide : ∀ i : Fin 2, (Vector.replicate 2 (0 : Byte))[i].toNat ≤ 0x1F)⟩, _, rfl⟩

theorem witness_StepKeepsCanonicalForms :
    (State.reset.presentCmd 0x1020020002050200).Canonical ∧
    ∃ t, step (State.reset.presentCmd 0x1020020002050200) = .next t :=
  ⟨⟨by decide, by decide, by decide, by decide, by decide, by decide⟩, _, rfl⟩

/-- A write with all bits set to the first register of each variant. -/
theorem witness_StepKeepsUnusedRegisters :
    ∀ s ∈ [cartV0, cartV1, cartV2, cartV3], (s.presentCmd 0x0280000000FF0000).VariantInv ∧
      ∃ t, step (s.presentCmd 0x0280000000FF0000) = .next t := by
  simp only [List.forall_mem_cons, List.not_mem_nil, false_imp_iff, implies_true, and_true]
  have le : ∀ k : Fin 2, (Vector.replicate 2 (0 : Byte))[k].toNat ≤ 0x07 := by decide
  exact ⟨⟨⟨le_trans (le 0) (by decide), rfl, rfl, rfl, rfl, rfl⟩, _, rfl⟩, ⟨⟨le 0, rfl, rfl, rfl, rfl⟩, _, rfl⟩,
    ⟨⟨le_trans (le 0) (by decide), le_trans (le 1) (by decide), rfl⟩, _, rfl⟩,
    ⟨le_trans (le 0) (by decide), le_trans (le 1) (by decide)⟩, _, rfl⟩

theorem witness_EveryRunFromPowerOn :
    ∃ s, Host.Core.run Sys2Proof.core 2
      { State.reset with trace := [⟨0x2000000000000000, some RomImage.empty⟩, ⟨0x2100000000000000, none⟩] } = .next s :=
  ⟨_, rfl⟩

theorem witness_InvariantGivesR42 : cartV0.Inv ∧ State.reset.Inv :=
  ⟨cart_inv _ _ _ _ _, rfl, rfl, Nat.succ_pos _, by simp [State.reset],
    (by decide : ∀ i : Fin 2, (Vector.replicate 2 (0 : Byte))[i].toNat ≤ 0x1F)⟩

end Sys2Proof.Tests
end

section

namespace Sys2Proof.Proofs.Scope

open Sys2Proof Sys2Proof.Machine

/-- The equation of `step` for a command: the operation arrives (`State.accept`), then its instruction acts. -/
theorem step_eq_exec_accept {s : State} {l : TraceLine} {rest : List TraceLine} {i : Instr}
    (htrace : s.trace = l :: rest) (hdecode : decodeCmd l.word = .ok i) :
    step s = exec i (s.accept l rest) := by
  simp only [step, htrace, hdecode]

/-- Settles O1: the state written out in the statement is the one `State.accept` gives. -/
theorem stepPerformsTheNextCommand : Obligations.StepPerformsTheNextCommand := by
  intro s l rest i htrace hdecode
  calc step s
      _ = exec i (s.accept l rest) := step_eq_exec_accept htrace hdecode
      _ = exec i { s with trace := rest, imageIn := l.image.getD s.imageIn, result := .none } := by
        rw [State.accept]

end Sys2Proof.Proofs.Scope

end

section

namespace Sys2Proof.Proofs.Invariants

open Sys2Proof Sys2Proof.Machine Sys2Proof.Statements

/-! ### The instruction of a command word -/

theorem unusedZero_ok {ok : Bool} {i j : Instr} (h : unusedZero ok i = .ok j) : j = i := by
  unfold unusedZero at h
  split at h <;> cases h
  rfl

theorem withGfxAddr_ok {a : Word} {k : GfxAddr → Except Reject Instr} {j : Instr}
    (h : withGfxAddr a k = .ok j) : ∃ g, k g = .ok j := by
  unfold withGfxAddr at h
  split at h
  · exact ⟨_, h⟩
  · cases h

theorem withReadKind_ok {d : Byte} {k : ReadKind → Except Reject Instr} {j : Instr}
    (h : withReadKind d k = .ok j) : ∃ r, k r = .ok j := by
  unfold withReadKind at h
  split at h
  · exact ⟨_, h⟩
  · cases h

theorem withWriteKind_ok {d : Byte} {k : WriteKind → Except Reject Instr} {j : Instr}
    (h : withWriteKind d k = .ok j) : ∃ r, k r = .ok j := by
  unfold withWriteKind at h
  split at h
  · exact ⟨_, h⟩
  · cases h

/-- An operation code names a command, never a row of a register map (30_encoding.md R92). -/
theorem decodeOp_format {op : BitVec 8} {addr param : Word} {data owner : Byte} {i : Instr}
    (h : decodeOp op addr param data owner = .ok i) : i.format = .cmd := by
  unfold decodeOp at h
  split at h
  case h_3 | h_4 =>
    obtain ⟨g, h⟩ := withGfxAddr_ok h
    rw [unusedZero_ok h]; rfl
  case h_5 => obtain ⟨k, h⟩ := withReadKind_ok h; cases h; rfl
  case h_6 => obtain ⟨k, h⟩ := withWriteKind_ok h; cases h; rfl
  case h_7 =>
    obtain ⟨g, h⟩ := withGfxAddr_ok h
    obtain ⟨k, h⟩ := withReadKind_ok h
    cases h; rfl
  case h_8 =>
    obtain ⟨g, h⟩ := withGfxAddr_ok h
    obtain ⟨k, h⟩ := withWriteKind_ok h
    cases h; rfl
  case h_14 => cases h
  all_goals rw [unusedZero_ok h]; rfl

theorem decodeCmd_format {w : CmdWord} {i : Instr} (h : decodeCmd w = .ok i) : i.format = .cmd := by
  unfold decodeCmd at h
  split at h
  · exact decodeOp_format h
  · cases h

/-! ### Invariants of steps and runs -/

/-- A predicate that the arrival of an operation and every command keep is kept by every step. -/
theorem step_keeps {P : State → Prop}
    (harrive : ∀ {s l rest}, s.trace = l :: rest → P s → P (s.accept l rest))
    (hexec : ∀ {i s t}, i.format = .cmd → exec i s = .next t → P s → P t)
    {s t : State} (hs : P s) (h : step s = .next t) : P t := by
  unfold step at h
  split at h
  case h_1 => cases h; exact hs
  case h_2 l rest htrace =>
    split at h
    case h_1 i hdecode => exact hexec (decodeCmd_format hdecode) h (harrive htrace hs)
    case h_2 => cases h

/-- A predicate that every step keeps holds after every run from a state that satisfies it. -/
theorem run_keeps {P : State → Prop} (hstep : ∀ {s t}, P s → step s = .next t → P t) (n : Nat) {s t : State}
    (hs : P s) (h : Host.Core.run Sys2Proof.core n s = .next t) : P t := by
  induction n generalizing s with
  | zero => cases h; exact hs
  | succ n ih =>
    simp only [Host.Core.run] at h
    split at h
    case h_1 u hu => exact ih (hstep hs hu) h
    case h_2 | h_3 => cases h

/-! ### What `INIT` loads -/

section load

variable (s : State) (r : RomImage) (n : Nat)

@[simp] theorem load_rom : (s.load r n).rom = r := rfl
@[simp] theorem load_pcbClass : (s.load r n).pcbClass = (classify r.mapperId r.subMapperId).1 := rfl
@[simp] theorem load_prgReg : (s.load r n).prgReg = Vector.replicate 2 0 := rfl
@[simp] theorem load_chrReg : (s.load r n).chrReg = Vector.replicate 8 0 := rfl
@[simp] theorem load_mirror : (s.load r n).mirror = .noOverride := rfl
@[simp] theorem load_style : (s.load r n).style = 0 := rfl
@[simp] theorem load_fixedOffset : (s.load r n).fixedOffset = fixedOffsetOf (s.load r n).variant r.prg.length := rfl
@[simp] theorem load_irq : (s.load r n).irq = .reset := rfl
@[simp] theorem load_chrRam : (s.load r n).chrRam = [] := rfl

@[simp] theorem load_cpuSlots : (s.load r n).cpuSlots = s.cpuSlots := by
  unfold State.load; dsimp only; split <;> rfl

@[simp] theorem load_gfxSlots : (s.load r n).gfxSlots = s.gfxSlots := by
  unfold State.load; dsimp only; split <;> rfl

@[simp] theorem load_trace : (s.load r n).trace = s.trace := by
  unfold State.load; dsimp only; split <;> rfl

@[simp] theorem load_imageIn : (s.load r n).imageIn = s.imageIn := by
  unfold State.load; dsimp only; split <;> rfl

end load

/-- The override database replaces no byte of an image (41_mapper_common.md R150). -/
theorem overridden_wf {r : RomImage} (h : r.wf = true) : (overridden r).1.wf = true := by
  unfold overridden
  split <;> exact h

/-! ### The invariant of the mapper and the counter -/

theorem irqDivN_pos : 0 < Config.irqDivN := Nat.succ_pos _

/-- A bound on both PRG registers survives a write within the bound. -/
theorem prgReg_set_le {regs : Vector Byte 2} {k : Fin 2} {v : Byte} {b : Nat} (hregs : ∀ i : Fin 2, regs[i].toNat ≤ b)
    (hv : v.toNat ≤ b) (i : Fin 2) : (regs.set k v)[i].toNat ≤ b := by
  by_cases hk : k = i
  · simpa [hk] using hv
  · have hki : (k : Nat) ≠ i := fun e => hk (Fin.ext e)
    simpa [Vector.getElem_set_ne, hki] using hregs i

theorem regEffect_inv {s t : State} (he : RegEffect s t) (h : s.Inv) : t.Inv := by
  cases he with
  | nop => exact h
  | prg k v hv => exact { h with prgReg := prgReg_set_le h.prgReg hv }
  | prgMirror v m hv hm =>
    exact { h with
      mirror := fun e => hm (Mirror.mode.inj e)
      prgReg := prgReg_set_le h.prgReg (le_trans hv (by decide)) }
  | chr k v => exact { h with }
  | mirror m hm => exact { h with mirror := fun e => hm (Mirror.mode.inj e) }
  | styleMirror y m hm => exact { h with mirror := fun e => hm (Mirror.mode.inj e) }
  | latch b => exact { h with }
  | control e c => exact { h with divPhase := Irq.setControl_divPhase _ _ irqDivN_pos h.divPhase e c }
  | ack => exact { h with }

/-- `INIT` establishes the invariant, whatever held before. -/
theorem load_inv (s : State) (r : RomImage) (n : Nat) : (s.load r n).Inv where
  pcbClass := load_pcbClass s r n
  fixedOffset := load_fixedOffset s r n
  divPhase := irqDivN_pos
  mirror := by simp
  prgReg := by simp

theorem effect_inv {i : Instr} {s t : State} (he : Effect s i t) (h : s.Inv) : t.Inv := by
  cases he with
  | register he => exact regEffect_inv he h
  | load _ => exact load_inv _ _ _
  | count _ _ => exact { h with divPhase := Irq.tick_divPhase _ _ irqDivN_pos h.divPhase }
  | chrRam _ _ _ | event _ | answer _ _ | cpuSlot _ _ _ | gfxSlot _ _ _ | install _ => exact { h with }

theorem accept_inv {s : State} (l : TraceLine) (rest : List TraceLine) (h : s.Inv) : (s.accept l rest).Inv := { h with }

/-- Settles O56: every effect an instruction can have keeps the invariant. -/
theorem stepKeepsTheInvariant : Obligations.StepKeepsTheInvariant := fun _ _ hs h =>
  step_keeps (fun _ hs => accept_inv _ _ hs) (fun _ h hs => effect_inv (exec_cases h) hs) hs h

/-! ### What the invariant says (10_state.md R42) -/

theorem readKindCode_le (k : ReadKind) : (readKindCode k).toNat ≤ 5 := by cases k <;> decide

theorem writeKindCode_le (k : WriteKind) : (writeKindCode k).toNat ≤ 3 := by cases k <;> decide

theorem mirrorCode_le (m : Mirror) : (mirrorCode m).toNat ≤ 5 := by rcases m with (_ | _ | _ | _ | _) | _ <;> decide

theorem fixedOffsetOf_le (m : Variant) (S : Nat) : fixedOffsetOf m S ≤ S := by
  cases m <;> simp [fixedOffsetOf, fixedSizeIn, prgWin]

/-- A fixed bank starts before the end of its ROM, unless the ROM is empty. -/
theorem fixedOffsetOf_eq_iff (m : Variant) (S : Nat) : fixedOffsetOf m S = S ↔ S = 0 := by
  cases m <;> simp only [fixedOffsetOf, fixedSizeIn, prgWin] <;> omega

theorem inv_r42 {s : State} (h : s.Inv) : R42 s := by
  refine ⟨fun a => ?kinds, mirrorCode_le _, h.divPhase, ?fixedOffset, rfl, h.prgReg⟩
  case kinds => exact ⟨readKindCode_le _, writeKindCode_le _, readKindCode_le _, writeKindCode_le _⟩
  case fixedOffset =>
    rw [h.fixedOffset]
    exact ⟨fixedOffsetOf_le _ _, fixedOffsetOf_eq_iff _ _⟩

/-- Settles O60: the handler kinds and the line are as R42 says in every state, the rest by the invariant. -/
theorem invariantGivesR42 : Obligations.InvariantGivesR42 := fun _ h => inv_r42 h

/-! ### Power-on -/

theorem reset_inv : State.reset.Inv where
  pcbClass := rfl
  fixedOffset := rfl
  divPhase := irqDivN_pos
  mirror := by simp [State.reset]
  prgReg := by simp [State.reset]

theorem reset_canonical : State.reset.Canonical where
  cpuSlots := SlotTable.wf_nil _
  gfxSlots := SlotTable.wf_nil _
  chrRam := Memory.wf_nil
  rom := RomImage.wf_empty
  imageIn := RomImage.wf_empty
  trace := by simp [State.reset]

theorem reset_variantInv : State.reset.VariantInv :=
  ⟨by simp [State.reset], by simp [State.reset], rfl, rfl, rfl, rfl⟩

/-- Settles O55, one invariant at a time. -/
theorem resetMeetsTheInvariant : Obligations.ResetMeetsTheInvariant :=
  ⟨reset_inv, reset_canonical, reset_variantInv⟩

/-- Settles O59: a trace put into the state of power-on touches nothing the invariant speaks of, and every step keeps
it. -/
theorem everyRunFromPowerOn : Obligations.EveryRunFromPowerOn := by
  intro ls n s hrun
  have hstart : State.Inv { State.reset with trace := ls } := { reset_inv with }
  exact inv_r42 (run_keeps (stepKeepsTheInvariant _ _) n hstart hrun)

/-- Settles O2 by the branch of `step` for an empty trace. -/
theorem stepWithoutOperationIdles : Obligations.StepWithoutOperationIdles := by
  intro s htrace
  simp only [step, htrace]

/-! ### Canonical forms -/

theorem installAll_wf {f : PrgWindow → Nat → SlotTable → SlotTable} {count : Nat}
    {ws : List PrgWindow} (hf : ∀ w ∈ ws, ∀ i t, SlotTable.wf count t = true → SlotTable.wf count (f w i t) = true)
    (i : Nat) {t : SlotTable} (ht : SlotTable.wf count t = true) : SlotTable.wf count (installAll f ws i t) = true := by
  induction ws generalizing i t with
  | nil => exact ht
  | cons w ws ih =>
    obtain ⟨hw, hws⟩ := List.forall_mem_cons.mp hf
    exact ih hws (i + 1) (hw i t ht)

/-- Every PRG window lies on the CPU bus. -/
theorem prgWin_end_le (m : Variant) : ∀ w ∈ prgWin m, w.base + w.size ≤ Config.cpuSlotCount := by
  cases m <;> decide

theorem installFixed_wf {w : PrgWindow} {count : Nat} (hw : w.base + w.size ≤ count) (i : Nat) (t : SlotTable)
    (ht : SlotTable.wf count t = true) : SlotTable.wf count (installFixed w i t) = true := by
  unfold installFixed
  split
  · exact SlotTable.wf_modify hw ht
  · exact ht

theorem installSwap_wf {w : PrgWindow} {count : Nat} (hw : w.base + w.size ≤ count) (i : Nat) (t : SlotTable)
    (ht : SlotTable.wf count t = true) : SlotTable.wf count (installSwap w i t) = true := by
  unfold installSwap
  split
  · exact ht
  · exact SlotTable.wf_modify hw ht

theorem cpuTableOf_wf (m : Variant) : SlotTable.wf Config.cpuSlotCount (cpuTableOf m) = true := by
  have hwin := prgWin_end_le m
  have hfixed := installAll_wf (fun w hw => installFixed_wf (hwin w hw)) 0 (SlotTable.wf_nil _)
  have hswap := installAll_wf (fun w hw => installSwap_wf (hwin w hw)) 0 hfixed
  exact SlotTable.wf_modify (base := 0x8000) (size := 0x8000) (by decide) hswap

theorem installChr_wf {count : Nat} (n k : Nat) (hcount : (k + n) * 1024 ≤ count) {t : SlotTable}
    (ht : SlotTable.wf count t = true) : SlotTable.wf count (installChr n k t) = true := by
  induction n generalizing k t with
  | zero => exact ht
  | succ n ih =>
    have hslot : k * 1024 + 1024 ≤ count := by omega
    have hrest : (k + 1 + n) * 1024 ≤ count := by rw [Nat.succ_add_eq_add_succ]; exact hcount
    exact ih (k + 1) hrest (SlotTable.wf_modify hslot ht)

theorem gfxTableOf_wf (useRam : Bool) : SlotTable.wf Config.gfxSlotCount (gfxTableOf useRam) = true := by
  cases useRam with
  | true => exact SlotTable.wf_modify (base := 0) (size := 8192) (by decide) (SlotTable.wf_nil _)
  | false => exact installChr_wf 8 0 (by decide) (SlotTable.wf_nil _)

theorem regEffect_canonical {s t : State} (he : RegEffect s t) (h : s.Canonical) : t.Canonical := by
  cases he <;> exact { h with }

theorem load_canonical {s : State} {r : RomImage} (n : Nat) (hr : r.wf = true) (h : s.Canonical) :
    (s.load r n).Canonical where
  cpuSlots := by simpa using h.cpuSlots
  gfxSlots := by simpa using h.gfxSlots
  chrRam := Memory.wf_nil
  rom := hr
  imageIn := by simpa using h.imageIn
  trace := by simpa using h.trace

theorem effect_canonical {i : Instr} {s t : State} (he : Effect s i t) (h : s.Canonical) : t.Canonical := by
  cases he with
  | register he => exact regEffect_canonical he h
  | chrRam off v hoff => exact { h with chrRam := Memory.wf_insert hoff h.chrRam }
  | cpuSlot a g _ => exact { h with cpuSlots := SlotTable.wf_modify (base := a.toNat) (size := 1) a.isLt h.cpuSlots }
  | gfxSlot a g _ => exact { h with gfxSlots := SlotTable.wf_modify (base := a.toNat) (size := 1) a.isLt h.gfxSlots }
  | load _ => exact load_canonical _ (overridden_wf h.imageIn) h
  | install _ => exact { h with cpuSlots := cpuTableOf_wf _, gfxSlots := gfxTableOf_wf _ }
  | event _ | answer _ _ | count _ _ => exact { h with }

theorem accept_canonical {s : State} {l : TraceLine} {rest : List TraceLine} (htrace : s.trace = l :: rest)
    (h : s.Canonical) : (s.accept l rest).Canonical := by
  obtain ⟨hl, hrest⟩ := List.forall_mem_cons.mp (htrace ▸ h.trace)
  have himage : (l.image.getD s.imageIn).wf = true := by
    cases hi : l.image with
    | none => exact h.imageIn
    | some r => exact hl r hi
  exact { h with imageIn := himage, trace := hrest }

/-- Settles O57: the arriving image is one the trace held, and every effect keeps the forms. -/
theorem stepKeepsCanonicalForms : Obligations.StepKeepsCanonicalForms := fun _ _ hs h =>
  step_keeps accept_canonical (fun _ h hs => effect_canonical (exec_cases h) hs) hs h

/-! ### What instructions other than `INIT` leave -/

/-- Settles O26: the only effect that writes the four fields is that of `INIT`. -/
theorem onlyInitWritesTheImage : Obligations.OnlyInitWritesTheImage := by
  intro i s t h hinit
  cases exec_cases h with
  | load hi => exact absurd hi hinit
  | register he => cases he <;> exact ⟨rfl, rfl, rfl, rfl⟩
  | _ => exact ⟨rfl, rfl, rfl, rfl⟩

/-! ### The register maps and their rows -/

/-- V2's map performs the row its decoder names, and is a no-op where there is none (30_encoding.md R103). -/
theorem regWriteV2_eq (ca : Word) (v : Byte) (s : State) :
    regWriteV2 ca v s = (decodeV2 ca v).elim (.next s) (exec · s) := by
  unfold regWriteV2
  split
  case h_27 =>
    have hnone : decodeV2 ca v = none := by simp only [decodeV2]
    rw [hnone]
    rfl
  all_goals simp only [decodeV2, *]; rfl

/-- V3's map performs the row its decoder names, and is a no-op where there is none (30_encoding.md R103). -/
theorem regWriteV3_eq (ca : Word) (v : Byte) (s : State) :
    regWriteV3 ca v s = (decodeV3 ca v).elim (.next s) (exec · s) := by
  unfold regWriteV3
  split
  case h_21 =>
    have hnone : decodeV3 ca v = none := by simp only [decodeV3]
    rw [hnone]
    rfl
  all_goals simp only [decodeV3, *]; rfl

/-- A register write performs the row the variant's decoder names, and is a no-op where there is none. -/
theorem regWrite_eq (m : Variant) (ca : Word) (v : Byte) (s : State) :
    regWrite m ca v s = (decodeReg m ca v).elim (.next s) (exec · s) := by
  cases m with
  | v0 | v1 => unfold regWrite decodeReg; dsimp only; split <;> rfl
  | v2 => exact regWriteV2_eq ca v s
  | v3 => exact regWriteV3_eq ca v s

theorem decodeReg_regWord {m : Variant} {ca : Word} {v : Byte} {j : Instr} (h : decodeReg m ca v = some j) :
    j.regWord = some (ca, v) := by
  cases m <;> dsimp only [decodeReg, decodeV2, decodeV3] at h <;> split at h <;> cases h <;> rfl

theorem regWord_isSome_of_row {i : Instr} (hf : i.format ≠ .cmd) : i.regWord.isSome := by
  cases i
  case rd | wr | grd | gwr | setrf | setwf | gsetrf | gsetwf | init | apply | tick | classify | lookup =>
    exact absurd rfl hf
  all_goals rfl

/-! ### Which command touches the register file -/

/-- Two states with the same class, registers, mirroring, IRQ counter and CHR-RAM. -/
structure SameRegisterFile (s t : State) : Prop where
  pcbClass : t.pcbClass = s.pcbClass
  prgReg : t.prgReg = s.prgReg
  chrReg : t.chrReg = s.chrReg
  mirror : t.mirror = s.mirror
  style : t.style = s.style
  irq : t.irq = s.irq
  chrRam : t.chrRam = s.chrRam
  chrRamDraw : t.chrRamDraw = s.chrRamDraw

theorem readSlot_sameRegisterFile (s : State) (x : Slot) (a : Word) : SameRegisterFile s (s.readSlot x a) := by
  obtain ⟨b, n, h, -⟩ := readSlot_cases s x a
  rw [h]
  exact ⟨rfl, rfl, rfl, rfl, rfl, rfl, rfl, rfl⟩

/-- What a command does to the register file, and through which slot a bus write does it. -/
inductive CmdEffect (s : State) (i : Instr) : State → Prop
  | write {x : Slot} {a : Word} {v : Byte} {t : State} (haccess : WriteAccess s i x a v)
      (hwrite : s.writeSlot x a v = .next t) : CmdEffect s i t
  | load (hinit : i = .init) : CmdEffect s i (s.load (overridden s.imageIn).1 (overridden s.imageIn).2)
  | count (q : Irq) (hirq : hasIrq s.variant = true) : CmdEffect s i (s.setIrq q)
  | same {t : State} (h : SameRegisterFile s t) : CmdEffect s i t

theorem exec_cmdEffect {i : Instr} {s t : State} (hf : i.format = .cmd) (h : exec i s = .next t) :
    CmdEffect s i t := by
  cases i
  case wr a v => exact .write (.inl ⟨rfl, rfl⟩) h
  case gwr g v => exact .write (.inr ⟨g, rfl, rfl, rfl⟩) h
  case rd a => cases h; exact .same (readSlot_sameRegisterFile _ _ _)
  case grd g => cases h; exact .same (readSlot_sameRegisterFile _ _ _)
  case init => cases h; exact .load rfl
  case tick =>
    simp only [exec, execTick] at h
    split at h <;> cases h
    · exact .count _ (by assumption)
    · exact .same ⟨rfl, rfl, rfl, rfl, rfl, rfl, rfl, rfl⟩
  case setrf | setwf | gsetrf | gsetwf | apply | classify | lookup =>
    cases h; exact .same ⟨rfl, rfl, rfl, rfl, rfl, rfl, rfl, rfl⟩
  all_goals cases hf

/-- What a write through a slot does to the register file, by the handler. -/
theorem writeSlot_registerFile {s t : State} {x : Slot} {a : Word} {v : Byte} (h : s.writeSlot x a v = .next t) :
    (x.wk = .wReg ∧ regWrite s.variant (swizzle s.wiring a) v s = .next t) ∨
      (x.wk = .wChrRam ∧ t = s.writeChrRam (a.toNat % 8192) v) ∨ SameRegisterFile s t := by
  unfold State.writeSlot at h
  split at h
  case h_1 => cases h; exact .inr (.inr ⟨rfl, rfl, rfl, rfl, rfl, rfl, rfl, rfl⟩)
  case h_2 hk => exact .inl ⟨hk, h⟩
  case h_3 hk => cases h; exact .inr (.inl ⟨hk, rfl⟩)
  case h_4 => cases h; exact .inr (.inr ⟨rfl, rfl, rfl, rfl, rfl, rfl, rfl, rfl⟩)

/-! ### The writers of the bank registers and of CHR-RAM -/

/-- A register write whose address no row matches leaves the state; every other performs a row. -/
theorem regWrite_same_or_row {m : Variant} {ca : Word} {v : Byte} {s t : State} (h : regWrite m ca v s = .next t) :
    t = s ∨ ∃ j, decodeReg m ca v = some j := by
  rw [regWrite_eq] at h
  cases hrow : decodeReg m ca v with
  | none => rw [hrow] at h; cases h; exact .inl rfl
  | some j => exact .inr ⟨j, rfl⟩

theorem bankRegisters_same_or_row {i : Instr} {s t : State} (h : exec i s = .next t) (hinit : i ≠ .init) :
    (t.prgReg = s.prgReg ∧ t.chrReg = s.chrReg ∧ t.style = s.style) ∨ ∃ j, Performs s i j ∧ j.regWord.isSome := by
  by_cases hf : i.format = .cmd
  · cases exec_cmdEffect hf h with
    | write haccess hwrite =>
      obtain ⟨hk, hreg⟩ | ⟨-, rfl⟩ | hsame := writeSlot_registerFile hwrite
      · obtain rfl | ⟨j, hrow⟩ := regWrite_same_or_row hreg
        · exact .inl ⟨rfl, rfl, rfl⟩
        · exact .inr ⟨j, .inr ⟨_, _, _, haccess, hk, hrow⟩, by rw [decodeReg_regWord hrow]; rfl⟩
      · exact .inl ⟨rfl, rfl, rfl⟩
      · exact .inl ⟨hsame.prgReg, hsame.chrReg, hsame.style⟩
    | load hi => exact absurd hi hinit
    | count _ _ => exact .inl ⟨rfl, rfl, rfl⟩
    | same hsame => exact .inl ⟨hsame.prgReg, hsame.chrReg, hsame.style⟩
  · exact .inr ⟨i, .inl rfl, regWord_isSome_of_row hf⟩

theorem regEffect_chrRamByte {s t : State} (he : RegEffect s t) (off : Nat) : t.chrRamByte off = s.chrRamByte off := by
  cases he <;> rfl

theorem SameRegisterFile.chrRamByte {s t : State} (h : SameRegisterFile s t) (off : Nat) :
    t.chrRamByte off = s.chrRamByte off := by
  simp only [State.chrRamByte, h.chrRam, h.chrRamDraw]

theorem chrRam_same_or_written {i : Instr} {s t : State} (h : exec i s = .next t) (hinit : i ≠ .init) :
    (∀ off, t.chrRamByte off = s.chrRamByte off) ∨
      ∃ x a v, WriteAccess s i x a v ∧ x.wk = .wChrRam ∧ t = s.writeChrRam (a.toNat % 8192) v := by
  by_cases hf : i.format = .cmd
  · cases exec_cmdEffect hf h with
    | write haccess hwrite =>
      obtain ⟨-, hreg⟩ | ⟨hk, ht⟩ | hsame := writeSlot_registerFile hwrite
      · obtain ⟨u, hu, he⟩ := regWrite_cases s.variant _ _ s
        cases hu.symm.trans hreg
        exact .inl (regEffect_chrRamByte he)
      · exact .inr ⟨_, _, _, haccess, hk, ht⟩
      · exact .inl hsame.chrRamByte
    | load hi => exact absurd hi hinit
    | count _ _ => exact .inl fun _ => rfl
    | same hsame => exact .inl hsame.chrRamByte
  · exact .inl (regEffect_chrRamByte (row_effect h hf))

/-- Settles O20: each clause is the second alternative of its dichotomy. -/
theorem registerAndChrRamWriters : Obligations.RegisterAndChrRamWriters := by
  intro i s t h hinit
  refine ⟨fun hchanged => ?registers, fun off hchanged => ?chrRam⟩
  case registers =>
    obtain ⟨hprg, hchr, hstyle⟩ | hrow := bankRegisters_same_or_row h hinit
    · simp [hprg, hchr, hstyle] at hchanged
    · exact hrow
  case chrRam =>
    obtain hsame | ⟨x, a, v, haccess, hk, rfl⟩ := chrRam_same_or_written h hinit
    · exact absurd (hsame off) hchanged
    · rw [State.chrRamByte_writeChrRam] at hchanged ⊢
      by_cases hoff : off = a.toNat % 8192
      · exact ⟨x, a, v, haccess, hk, hoff, if_pos hoff⟩
      · exact absurd (if_neg hoff) hchanged

/-! ### What the variant in force does not use -/

section variants

variable {s t : State} {ca : Word} {v : Byte}

theorem variantInv_v0 (hv : s.variant = .v0) : s.VariantInv ↔
    s.prgReg[0].toNat ≤ 0x1F ∧ s.prgReg[1] = 0 ∧ s.chrReg = Vector.replicate 8 0 ∧ s.style = 0 ∧
      s.mirror = .noOverride ∧ s.irq = .reset := by
  simp only [State.VariantInv, hv]

theorem variantInv_v1 (hv : s.variant = .v1) : s.VariantInv ↔
    s.prgReg[0].toNat ≤ 0x07 ∧ s.prgReg[1] = 0 ∧ s.chrReg = Vector.replicate 8 0 ∧ s.style = 0 ∧ s.irq = .reset := by
  simp only [State.VariantInv, hv]

theorem variantInv_v2 (hv : s.variant = .v2) : s.VariantInv ↔
    s.prgReg[0].toNat ≤ 0x1F ∧ s.prgReg[1].toNat ≤ 0x1F ∧ s.style = 0 := by
  simp only [State.VariantInv, hv]

theorem variantInv_v3 (hv : s.variant = .v3) : s.VariantInv ↔
    s.prgReg[0].toNat ≤ 0x0F ∧ s.prgReg[1].toNat ≤ 0x1F := by
  simp only [State.VariantInv, hv]

/-- Every row of V2's map keeps the style and the five bits of each PRG register. -/
theorem regWriteV2_bounds (h : regWriteV2 ca v s = .next t)
    (hs : s.prgReg[0].toNat ≤ 0x1F ∧ s.prgReg[1].toNat ≤ 0x1F ∧ s.style = 0) :
    t.prgReg[0].toNat ≤ 0x1F ∧ t.prgReg[1].toNat ≤ 0x1F ∧ t.style = 0 := by
  obtain ⟨hprg0, hprg1, hstyle⟩ := hs
  unfold regWriteV2 at h
  split at h <;> cases h
  case h_1 => exact ⟨by simpa using toNat_and_le v 0x1F, by simpa using hprg1, hstyle⟩
  case h_6 => exact ⟨by simpa using hprg0, by simpa using toNat_and_le v 0x1F, hstyle⟩
  all_goals exact ⟨hprg0, hprg1, hstyle⟩

/-- Every row of V3's map keeps the bits of each PRG register. -/
theorem regWriteV3_bounds (h : regWriteV3 ca v s = .next t)
    (hs : s.prgReg[0].toNat ≤ 0x0F ∧ s.prgReg[1].toNat ≤ 0x1F) :
    t.prgReg[0].toNat ≤ 0x0F ∧ t.prgReg[1].toNat ≤ 0x1F := by
  obtain ⟨hprg0, hprg1⟩ := hs
  unfold regWriteV3 at h
  split at h <;> cases h
  case h_1 => exact ⟨by simpa using toNat_and_le v 0x0F, by simpa using hprg1⟩
  case h_8 => exact ⟨by simpa using hprg0, by simpa using toNat_and_le v 0x1F⟩
  all_goals exact ⟨hprg0, hprg1⟩

theorem regWrite_variant {m : Variant} (h : regWrite m ca v s = .next t) : t.variant = s.variant := by
  obtain ⟨u, hu, he⟩ := regWrite_cases m ca v s
  cases hu.symm.trans h
  obtain ⟨-, -, -, hclass, -⟩ := regEffect_frame he
  exact congrArg variantOf hclass

/-- A register of the variant in force writes no register that the variant does not use, and no bit it does not
implement. -/
theorem regWrite_variantInv (hs : s.VariantInv) (h : regWrite s.variant ca v s = .next t) : t.VariantInv := by
  have ht := regWrite_variant h
  cases hv : s.variant <;> rw [hv] at h ht
  case v0 =>
    rw [variantInv_v0 hv] at hs
    rw [variantInv_v0 ht]
    simp only [regWrite] at h
    split at h <;> cases h
    · exact ⟨by simpa using toNat_and_le v 0x1F, by simpa using hs.2⟩
    · exact hs
  case v1 =>
    rw [variantInv_v1 hv] at hs
    rw [variantInv_v1 ht]
    simp only [regWrite] at h
    split at h <;> cases h
    · exact ⟨by simpa using toNat_and_le v 0x07, by simpa using hs.2⟩
    · exact hs
  case v2 => exact (variantInv_v2 ht).mpr (regWriteV2_bounds h ((variantInv_v2 hv).mp hs))
  case v3 => exact (variantInv_v3 ht).mpr (regWriteV3_bounds h ((variantInv_v3 hv).mp hs))

theorem SameRegisterFile.variantInv (hsame : SameRegisterFile s t) (hs : s.VariantInv) : t.VariantInv := by
  obtain ⟨hclass, hprg, hchr, hmirror, hstyle, hirq, -, -⟩ := hsame
  simpa only [State.VariantInv, State.variant, hclass, hprg, hchr, hmirror, hstyle, hirq] using hs

/-- A variant with an IRQ counter uses all of it (41_mapper_common.md R152). -/
theorem setIrq_variantInv (q : Irq) (hirq : hasIrq s.variant = true) (hs : s.VariantInv) :
    (s.setIrq q).VariantInv := by
  have ht : (s.setIrq q).variant = s.variant := rfl
  cases hv : s.variant <;> rw [hv] at ht
  case v0 | v1 => rw [hv] at hirq; cases hirq
  case v2 => exact (variantInv_v2 ht).mpr ((variantInv_v2 hv).mp hs)
  case v3 => exact (variantInv_v3 ht).mpr ((variantInv_v3 hv).mp hs)

/-- `INIT` puts every register at its power-on value, which is in the bounds of every variant. -/
theorem load_variantInv (s : State) (r : RomImage) (n : Nat) : (s.load r n).VariantInv := by
  unfold State.VariantInv
  split <;> simp

theorem exec_variantInv {i : Instr} (hf : i.format = .cmd) (h : exec i s = .next t) (hs : s.VariantInv) :
    t.VariantInv := by
  cases exec_cmdEffect hf h with
  | write _ hwrite =>
    obtain ⟨-, hreg⟩ | ⟨-, rfl⟩ | hsame := writeSlot_registerFile hwrite
    · exact regWrite_variantInv hs hreg
    · exact hs
    · exact hsame.variantInv hs
  | load _ => exact load_variantInv _ _ _
  | count q hirq => exact setIrq_variantInv q hirq hs
  | same hsame => exact hsame.variantInv hs

end variants

/-- Settles O58: a command reaches the registers only through the map of the variant in force, the counter only where
the variant has one, and `INIT` resets both. -/
theorem stepKeepsUnusedRegisters : Obligations.StepKeepsUnusedRegisters := fun _ _ hs h =>
  step_keeps (fun _ hs => hs) exec_variantInv hs h

end Sys2Proof.Proofs.Invariants

end

section

namespace Sys2Proof.Proofs.Reads

open Sys2Proof Sys2Proof.Machine Sys2Proof.Statements

/-! ### A bus read is a read through its slot -/

theorem exec_of_readAccess {s : State} {i : Instr} {x : Slot} {a : Word} (h : ReadAccess s i x a) :
    exec i s = .next (s.readSlot x a) := by
  obtain ⟨rfl, rfl⟩ | ⟨g, rfl, rfl, rfl⟩ := h <;> rfl

/-- Settles O9: the answer of a read through a slot, whatever the source of its byte. -/
theorem busReadsAnswerAByte : Obligations.BusReadsAnswerAByte := by
  intro s i x a haccess
  obtain ⟨b, n, hread, hn⟩ := readSlot_cases s x a
  exact ⟨b, n, by rw [exec_of_readAccess haccess, hread], hn⟩

/-! ### The sources of the read handlers (20_memory.md R77) -/

section sources

variable {s : State} {p a : Word}

/-- An offset that a read's source names lies within the byte store it is an offset of. -/
def SourceInBounds (s : State) : Source → Prop
  | .prg off => off < s.rom.prg.length
  | .chr off => off < s.rom.chr.length
  | .chrRam off => off < 8192
  | .openBus | .ext _ _ _ => True

theorem prgFixedSource_of_empty (h : s.rom.prg.length = 0) : s.prgFixedSource p a = .openBus := by
  unfold State.prgFixedSource
  split
  · rfl
  · split
    · rfl
    · exact if_pos (.inr (.inr h))

theorem prgSwapSource_of_empty (h : s.rom.prg.length = 0) : s.prgSwapSource p a = .openBus := by
  unfold State.prgSwapSource
  split
  · rfl
  · split
    · rfl
    · exact if_pos (.inr (.inr h))

theorem chrSource_of_empty (h : s.rom.chr.length = 0) : s.chrSource p a = .openBus := by
  unfold State.chrSource
  split
  · exact if_pos (.inr (.inr h))
  · rfl

/-- A fixed bank starts within its ROM, unless the ROM is empty (10_state.md R42 (4)). -/
theorem fixedOffset_lt (hinv : s.Inv) (h : s.rom.prg.length ≠ 0) : s.fixedOffset < s.rom.prg.length := by
  rw [hinv.fixedOffset]
  exact lt_of_le_of_ne (Invariants.fixedOffsetOf_le _ _) (mt (Invariants.fixedOffsetOf_eq_iff _ _).mp h)

theorem prgFixedSource_inBounds (hinv : s.Inv) : SourceInBounds s (s.prgFixedSource p a) := by
  by_cases hS : s.rom.prg.length = 0
  · rw [prgFixedSource_of_empty hS]; trivial
  · unfold State.prgFixedSource
    repeat' split
    case isFalse => exact fixedBankOffset_lt (fixedOffset_lt hinv hS)
    all_goals trivial

theorem prgSwapSource_inBounds : SourceInBounds s (s.prgSwapSource p a) := by
  by_cases hS : s.rom.prg.length = 0
  · rw [prgSwapSource_of_empty hS]; trivial
  · unfold State.prgSwapSource
    repeat' split
    case isFalse => exact swapOffset_lt (Nat.pos_of_ne_zero hS)
    all_goals trivial

theorem chrOffset_lt (h : s.rom.chr.length ≠ 0) (w : ChrWindow) (n : Nat) : s.chrOffset w n < s.rom.chr.length := by
  unfold State.chrOffset
  split <;> exact Nat.mod_lt _ (Nat.pos_of_ne_zero h)

theorem chrSource_inBounds : SourceInBounds s (s.chrSource p a) := by
  by_cases hS : s.rom.chr.length = 0
  · rw [chrSource_of_empty hS]; trivial
  · unfold State.chrSource
    split
    · split
      · trivial
      · exact chrOffset_lt hS _ _
    · trivial

theorem readSource_inBounds (hinv : s.Inv) (k : ReadKind) (o : Byte) (p a : Word) :
    SourceInBounds s (s.readSource k o p a) := by
  cases k with
  | rOpen | rExt => trivial
  | rPrgFixed => exact prgFixedSource_inBounds hinv
  | rPrgSwap => exact prgSwapSource_inBounds
  | rChr => exact chrSource_inBounds
  | rChrRam => exact Nat.mod_lt _ (by decide)

end sources

/-- Settles O10: the first three clauses are the bound on the source, read for each store. -/
theorem romReadsInBounds : Obligations.RomReadsInBounds := by
  intro s k o p a hinv off
  have hbound := readSource_inBounds hinv k o p a
  refine ⟨fun h => ?prg, fun h => ?chr, fun h => ?chrRam, fun hS hk => ?noPrg, fun hS hk => ?noChr⟩
  case prg | chr | chrRam => rw [h] at hbound; exact hbound
  case noPrg =>
    obtain rfl | rfl := hk
    · exact prgFixedSource_of_empty hS
    · exact prgSwapSource_of_empty hS
  case noChr => subst hk; exact chrSource_of_empty hS

/-! ### The byte a bank window answers -/

section banks

variable {s : State} {x : Slot} {a : Word}

theorem prgSwapSource_of_inWindow {p : Word} {w : PrgWindow} {k : Fin 2} (hw : (prgWin s.variant)[p.toNat]? = some w)
    (hkind : w.kind = .swap k) (ha : InWindow w a) (hS : s.rom.prg.length ≠ 0) :
    s.prgSwapSource p a = .prg (swapOffset (a.toNat - w.base) s.prgReg[k].toNat w.size s.rom.prg.length) := by
  obtain ⟨hlo, hhi⟩ := ha
  have hin : ¬ (a.toNat < w.base ∨ w.base + w.size ≤ a.toNat ∨ s.rom.prg.length = 0) := by omega
  simp only [State.prgSwapSource, hw, hkind, if_neg hin]

/-- A swappable PRG window answers the byte of the bank its register selects (41_mapper_common.md R154). -/
theorem readSlot_prgSwap {w : PrgWindow} {k : Fin 2} (hx : x.rk = .rPrgSwap)
    (hw : (prgWin s.variant)[x.rp.toNat]? = some w) (hkind : w.kind = .swap k) (ha : InWindow w a)
    (hS : s.rom.prg.length ≠ 0) :
    ∃ b, s.readSlot x a = { s with result := .byte b } ∧
      s.rom.prg.byteAt (swapOffset (a.toNat - w.base) s.prgReg[k].toNat w.size s.rom.prg.length) = some b := by
  obtain ⟨b, hb⟩ := ByteSeq.byteAt_lt (swapOffset_lt (d := a.toNat - w.base) (r := s.prgReg[k].toNat) (B := w.size)
    (Nat.pos_of_ne_zero hS))
  refine ⟨b, ?_, hb⟩
  simp only [State.readSlot, State.readSource, hx, prgSwapSource_of_inWindow hw hkind ha hS, State.answerFrom, hb,
    answerRom_some, State.answer]

/-- The windows the statements write out are those of the model (45_mapper_variants.md R243, R248, R257, R267). -/
theorem chrWindow_eq (m : Variant) (style : BitVec 2) (k : Fin 8) :
    chrWindow m style.toNat k.val =
      ((chrWin m style k).base, (chrWin m style k).gran, (chrWin m style k).reg.map Fin.val) := by
  cases m with
  | v0 | v1 | v2 => rfl
  | v3 => revert style k; decide

theorem chrByte_iff (s : State) (k : Fin 8) (a : Word) (b : Byte) :
    ChrByte s k a b ↔ s.rom.chr.byteAt (s.chrOffset (chrWin s.variant s.style k) a.toNat) = some b := by
  unfold ChrByte
  rw [chrWindow_eq]
  cases hreg : (chrWin s.variant s.style k).reg with
  | none => simp only [Option.map_none, State.chrOffset, hreg]
  | some r =>
    simp only [Option.map_some, State.chrOffset, hreg]
    exact ⟨fun h => h r.isLt, fun h _ => h⟩

/-- A CHR-ROM slot answers the byte of the window that covers it (41_mapper_common.md R155). -/
theorem readSlot_chr {k : Fin 8} (hx : x.rk = .rChr) (hp : x.rp.toNat = k) (hk : a.toNat / 1024 = k)
    (hS : s.rom.chr.length ≠ 0) : ∃ b, s.readSlot x a = { s with result := .byte b } ∧ ChrByte s k a b := by
  obtain ⟨b, hb⟩ := ByteSeq.byteAt_lt (chrOffset_lt hS (chrWin s.variant s.style k) a.toNat)
  refine ⟨b, ?_, (chrByte_iff s k a b).mpr hb⟩
  have hin : ¬ (0x2000 ≤ a.toNat ∨ a.toNat / 1024 ≠ x.rp.toNat ∨ s.rom.chr.length = 0) := by omega
  have hsource : s.chrSource x.rp a = .chr (s.chrOffset (chrWin s.variant s.style k) a.toNat) := by
    rw [State.chrSource, dif_pos (by omega), if_neg hin]
    simp only [hp, Fin.eta]
  simp only [State.readSlot, State.readSource, hx, hsource, State.answerFrom, hb, answerRom_some, State.answer]

end banks

/-! ### The slots `APPLY` installs -/

/-- A slot of register space after `APPLY`: the read route of its window, and the write route `W_REG`. -/
theorem get_cpuTableOf (m : Variant) {a : Nat} (hlo : 0x8000 ≤ a) (hhi : a < 0x10000) :
    (cpuTableOf m).get a =
      { rk := (appliedRead m a).1, ro := (appliedRead m a).2.1, rp := (appliedRead m a).2.2,
        wk := .wReg, wo := ownerMapper, wp := 0 } := by
  have hrom : ¬ a < 0x8000 := by omega
  rw [cpuTableOf, installRegisters, SlotTable.get_modify, if_pos (by omega)]
  cases m <;>
    simp only [appliedRead, if_neg hrom, installAll, installSwap, installFixed, prgWin, SlotTable.get_modify,
      SlotTable.get_nil] <;>
    split_ifs <;> first | rfl | omega

theorem prgWin_base_le (m : Variant) : ∀ w ∈ prgWin m, 0x8000 ≤ w.base := by cases m <;> decide

/-- Each slot of a swappable window has the read route of that window (41_mapper_common.md R151). -/
theorem appliedRead_of_swap {m : Variant} {w : PrgWindow} {k : Fin 2} {a : Word} (hw : w ∈ prgWin m)
    (hkind : w.kind = .swap k) (ha : InWindow w a) :
    ∃ p : Word, appliedRead m a.toNat = (.rPrgSwap, 1, p) ∧ (prgWin m)[p.toNat]? = some w := by
  obtain ⟨hlo, hhi⟩ := ha
  cases m <;> simp only [prgWin, List.mem_cons, List.not_mem_nil, or_false] at hw <;> simp only [appliedRead]
  case v0 =>
    obtain rfl | rfl := hw <;> simp only at hlo hhi
    · exact ⟨0, by rw [if_neg (by omega), if_pos (by omega)], rfl⟩
    · cases hkind
  case v1 =>
    subst hw
    exact ⟨0, if_neg (by simp only at hlo; omega), rfl⟩
  case v2 | v3 =>
    obtain rfl | rfl | rfl := hw <;> simp only at hlo hhi
    · exact ⟨0, by rw [if_neg (by omega), if_pos (by omega)], rfl⟩
    · exact ⟨1, by rw [if_neg (by omega), if_neg (by omega), if_pos (by omega)], rfl⟩
    · cases hkind

/-- The `R_CHR` routes of a run of 1 KiB slots (41_mapper_common.md R151). -/
theorem get_installChr (n k a : Nat) (t : SlotTable) :
    (installChr n k t).get a =
      if k * 1024 ≤ a ∧ a < (k + n) * 1024 then Slot.setRead .rChr ownerMapper (BitVec.ofNat 16 (a / 1024)) (t.get a)
      else t.get a := by
  induction n generalizing k t with
  | zero => rw [if_neg (by omega)]; rfl
  | succ n ih =>
    rw [installChr, ih, SlotTable.get_modify]
    by_cases hslot : k * 1024 ≤ a ∧ a < k * 1024 + 1024
    · have hk : a / 1024 = k := by omega
      rw [if_pos hslot, if_neg (by omega), if_pos (by omega), hk]
    · rw [if_neg hslot]
      exact if_congr (by omega) rfl rfl

theorem get_gfxTableOf_false {a : Nat} (ha : a < 0x2000) :
    (gfxTableOf false).get a = Slot.setRead .rChr ownerMapper (BitVec.ofNat 16 (a / 1024)) Slot.default :=
  (get_installChr 8 0 a []).trans (if_pos (by omega))

/-! ### The bank registers after a register write -/

section registers

variable {s t : State} {ca : Word} {v : Byte}

theorem regGroup_toNat (ca : Word) : (regGroup ca).toNat = ca.toNat / 4096 := by
  simp only [regGroup, BitVec.extractLsb'_toNat, Nat.shiftRight_eq_div_pow]; omega

theorem regSel_toNat (ca : Word) : (regSel ca).toNat = ca.toNat % 4 := by
  simp [regSel]

/-- The bank registers and the style of `t` are those of `s` after a write of `v` to the canonical address `ca`. -/
structure BanksWritten (m : Variant) (ca : Word) (v : Byte) (s t : State) : Prop where
  prgReg : ∀ k : Fin 2, t.prgReg[k] = prgWritten m ca v k s.prgReg[k]
  chrReg : ∀ k : Fin 8, t.chrReg[k] = chrWritten m ca v k s.chrReg[k]
  style : t.style = styleWritten m ca v s.style

/-- A row with no bank register. -/
theorem banksWritten_of_same {m : Variant} (hprg : t.prgReg = s.prgReg) (hchr : t.chrReg = s.chrReg)
    (hstyle : t.style = s.style) (hp : ∀ k old, prgWritten m ca v k old = old)
    (hc : ∀ k old, chrWritten m ca v k old = old) (hs : ∀ old, styleWritten m ca v old = old) :
    BanksWritten m ca v s t where
  prgReg k := by rw [hp, hprg]
  chrReg k := by rw [hc, hchr]
  style := by rw [hs, hstyle]

/-- A row that writes the PRG register `i` whole. -/
theorem banksWritten_setPrgReg {m : Variant} {i : Fin 2} {x : Byte} (hi : ∀ old, prgWritten m ca v i old = x)
    (hp : ∀ k old, k ≠ i → prgWritten m ca v k old = old) (hc : ∀ k old, chrWritten m ca v k old = old)
    (hs : ∀ old, styleWritten m ca v old = old) : BanksWritten m ca v s (s.setPrgReg i x) where
  prgReg k := by
    by_cases hk : k = i
    · subst hk; simp [hi]
    · have hki : (i : Nat) ≠ k := fun e => hk (Fin.ext e.symm)
      simp [hp k _ hk, Vector.getElem_set_ne, hki]
  chrReg k := (hc _ _).symm
  style := (hs _).symm

/-- A row that writes the CHR register `i`, `f` of its old value. -/
theorem banksWritten_setChrReg {m : Variant} {i : Fin 8} {f : Byte → Byte}
    (hi : ∀ old, chrWritten m ca v i old = f old) (hc : ∀ k old, k.val ≠ i.val → chrWritten m ca v k old = old)
    (hp : ∀ k old, prgWritten m ca v k old = old)
    (hs : ∀ old, styleWritten m ca v old = old) : BanksWritten m ca v s (s.setChrReg i (f s.chrReg[i])) where
  prgReg k := (hp _ _).symm
  chrReg k := by
    by_cases hk : k = i
    · subst hk; simp [hi]
    · have hki : (i : Nat) ≠ k := fun e => hk (Fin.ext e.symm)
      simp [hc k _ hki.symm, Vector.getElem_set_ne, hki]
  style := (hs _).symm

theorem regGroup_mem_of_registerSpace (h : 0x8000 ≤ ca.toNat) :
    regGroup ca ∈ [0x8#4, 0x9#4, 0xA#4, 0xB#4, 0xC#4, 0xD#4, 0xE#4, 0xF#4] := by
  have hg : 8 ≤ (regGroup ca).toNat := by rw [regGroup_toNat]; omega
  generalize regGroup ca = g at hg ⊢
  revert g
  decide

theorem regSel_mem (ca : Word) : regSel ca ∈ [0#2, 1#2, 2#2, 3#2] := by
  generalize regSel ca = sel
  revert sel
  decide

theorem getLsbD_15_of_registerSpace (h : 0x8000 ≤ ca.toNat) : ca.getLsbD 15 = true := by
  simpa [BitVec.msb_eq_getLsbD_last, h] using BitVec.msb_eq_decide ca

/-- Every canonical address of register space is one of every variant's map (30_encoding.md R108). -/
theorem decodeReg_ne_none (m : Variant) (v : Byte) (h : 0x8000 ≤ ca.toNat) : decodeReg m ca v ≠ none := by
  have hg := regGroup_mem_of_registerSpace h
  have hsel := regSel_mem ca
  have h15 := getLsbD_15_of_registerSpace h
  simp only [List.mem_cons, List.not_mem_nil, or_false] at hg hsel
  cases m with
  | v0 | v1 => simp [decodeReg, h15]
  | v2 | v3 =>
    rcases hg with hg | hg | hg | hg | hg | hg | hg | hg <;> rcases hsel with hsel | hsel | hsel | hsel <;>
      simp [decodeReg, decodeV2, decodeV3, hg, hsel]

/-- V2's rows: PRG 0 and 1 (R253, R255), the halves of the CHR registers (R256), and no bank register. -/
theorem regWriteV2_banks (hca : 0x8000 ≤ ca.toNat) (h : regWriteV2 ca v s = .next t) :
    BanksWritten .v2 ca v s t := by
  unfold regWriteV2 at h
  split at h <;> cases h
  case h_27 => exact absurd (by simp only [decodeReg, decodeV2]) (decodeReg_ne_none .v2 v hca)
  case h_1 | h_6 =>
    rename_i hg
    refine banksWritten_setPrgReg ?_ ?_ ?_ ?_ <;>
      simp +contextual [prgWritten, chrWritten, styleWritten, ← regGroup_toNat, ← regSel_toNat, hg]
  case h_2 | h_3 | h_4 | h_5 | h_23 | h_24 | h_25 | h_26 =>
    rename_i hg hsel
    refine banksWritten_of_same rfl rfl rfl ?_ ?_ ?_ <;>
      simp [prgWritten, chrWritten, styleWritten, ← regGroup_toNat, ← regSel_toNat, hg, hsel]
  case h_7 | h_9 | h_11 | h_13 | h_15 | h_17 | h_19 | h_21 =>
    rename_i hg hsel
    refine banksWritten_setChrReg (f := (lowHalf · v)) ?_ ?_ ?_ ?_ <;>
      simp +contextual [prgWritten, chrWritten, styleWritten, ← regGroup_toNat, ← regSel_toNat, hg, hsel, lowHalf]
  case h_8 | h_10 | h_12 | h_14 | h_16 | h_18 | h_20 | h_22 =>
    rename_i hg hsel
    refine banksWritten_setChrReg (f := (highHalf · v)) ?_ ?_ ?_ ?_ <;>
      simp +contextual [prgWritten, chrWritten, styleWritten, ← regGroup_toNat, ← regSel_toNat, hg, hsel, highHalf]

/-- The style field of V3's banking control (45_mapper_variants.md R266). -/
theorem truncate_and_three (v : Byte) : (v &&& 3).truncate 2 = v.extractLsb' 0 2 := by revert v; decide

/-- V3's rows: PRG 0 and 1 (R263, R264), the CHR registers (R265), the style (R266), and no bank register. -/
theorem regWriteV3_banks (hca : 0x8000 ≤ ca.toNat) (h : regWriteV3 ca v s = .next t) :
    BanksWritten .v3 ca v s t := by
  unfold regWriteV3 at h
  split at h <;> cases h
  case h_21 => exact absurd (by simp only [decodeReg, decodeV3]) (decodeReg_ne_none .v3 v hca)
  case h_1 | h_8 =>
    rename_i hg
    refine banksWritten_setPrgReg ?_ ?_ ?_ ?_ <;>
      simp +contextual [prgWritten, chrWritten, styleWritten, ← regGroup_toNat, ← regSel_toNat, hg]
  case h_7 =>
    rename_i hg hsel
    exact {
      prgReg := fun k => by simp [prgWritten, ← regGroup_toNat, hg]
      chrReg := fun k => by simp [chrWritten, ← regGroup_toNat, hg]
      style := by
        rw [styleWritten, if_pos (by simp [← regGroup_toNat, ← regSel_toNat, hg, hsel]), truncate_and_three]
        rfl }
  case h_9 | h_10 | h_11 | h_12 | h_13 | h_14 | h_15 | h_16 =>
    rename_i hg hsel
    refine banksWritten_setChrReg (f := fun _ => v) ?_ ?_ ?_ ?_ <;>
      simp +contextual [prgWritten, chrWritten, styleWritten, ← regGroup_toNat, ← regSel_toNat, hg, hsel]
  all_goals
    refine banksWritten_of_same rfl rfl rfl ?_ ?_ ?_ <;>
      simp [prgWritten, chrWritten, styleWritten, ← regGroup_toNat, ← regSel_toNat, *]

/-- V0 has one register, PRG register 0, at every address of register space (45_mapper_variants.md R242). -/
theorem banksWritten_v0 : BanksWritten .v0 ca v s (s.setPrgReg 0 (v &&& 0x1F)) := by
  refine banksWritten_setPrgReg ?_ ?_ ?_ ?_ <;> simp +contextual [prgWritten, chrWritten, styleWritten]

/-- V1 has one bank register, PRG register 0, at every address of register space (45_mapper_variants.md R247). -/
theorem banksWritten_v1 : BanksWritten .v1 ca v s (s.setPrgReg 0 (v &&& 0x07)) := by
  refine banksWritten_setPrgReg ?_ ?_ ?_ ?_ <;> simp +contextual [prgWritten, chrWritten, styleWritten]

theorem regWrite_banks {m : Variant} (hca : 0x8000 ≤ ca.toNat) (h : regWrite m ca v s = .next t) :
    BanksWritten m ca v s t := by
  have h15 := getLsbD_15_of_registerSpace hca
  cases m with
  | v0 => simp only [regWrite, h15, if_true] at h; cases h; exact banksWritten_v0
  | v1 => simp only [regWrite, h15, if_true] at h; cases h; exact { banksWritten_v1 with }
  | v2 => exact regWriteV2_banks hca h
  | v3 => exact regWriteV3_banks hca h

end registers

/-- No wiring moves address line 15 (42_swizzle.md R180). -/
theorem swizzle_msb (w : Wiring) (a : Word) : (swizzle w a).msb = a.msb := by
  cases w
  case a0a1 => rfl
  all_goals
    simp only [swizzle, swizzleA1A0, swizzleA1A2, swizzleA2A3, swizzleA3A2, swizzleA6A7, BitVec.msb_or,
      BitVec.msb_and]
    simp +decide [BitVec.msb_shiftLeft, BitVec.msb_ushiftRight]

theorem swizzle_registerSpace (w : Wiring) {r : Word} (h : 0x8000 ≤ r.toNat) : 0x8000 ≤ (swizzle w r).toNat := by
  have hmsb := swizzle_msb w r
  simpa [BitVec.msb_eq_decide, h] using hmsb

/-! ### Reads and writes through the tables of `APPLY` -/

section applied

variable {s t : State}

/-- With the CPU table of `APPLY` every write to register space is a register write (41_mapper_common.md R156). -/
theorem exec_wr_register {r : Word} (v : Byte) (hcpu : s.cpuSlots = cpuTableOf s.variant) (hr : 0x8000 ≤ r.toNat) :
    exec (.wr r v) s = regWrite s.variant (swizzle s.wiring r) v s := by
  simp only [exec, execWr, State.writeSlot, hcpu, get_cpuTableOf _ hr r.isLt, State.writeRegister]

/-- With the CPU table of `APPLY` a swappable window reads by its register (41_mapper_common.md R154). -/
theorem exec_rd_swapWindow {w : PrgWindow} {k : Fin 2} {a : Word} (hcpu : s.cpuSlots = cpuTableOf s.variant)
    (hw : w ∈ prgWin s.variant) (hkind : w.kind = .swap k) (ha : InWindow w a) (hS : s.rom.prg.length ≠ 0) :
    ∃ b, exec (.rd a) s = .next { s with result := .byte b } ∧
      s.rom.prg.byteAt (swapOffset (a.toNat - w.base) s.prgReg[k].toNat w.size s.rom.prg.length) = some b := by
  obtain ⟨p, hroute, hp⟩ := appliedRead_of_swap hw hkind ha
  have hslot := get_cpuTableOf s.variant ((prgWin_base_le _ w hw).trans ha.1) a.isLt
  rw [hroute, ← hcpu] at hslot
  have hrk : (s.cpuSlots.get a.toNat).rk = .rPrgSwap := by rw [hslot]
  have hrp : (s.cpuSlots.get a.toNat).rp = p := by rw [hslot]
  obtain ⟨b, hread, hb⟩ := readSlot_prgSwap hrk (hrp ▸ hp) hkind ha hS
  exact ⟨b, congrArg _ hread, hb⟩

/-- With the CHR-ROM routes of `APPLY` every graphics address reads by the window of its slot (R155). -/
theorem exec_grd_chrRom (hgfx : s.gfxSlots = gfxTableOf false) (hS : s.rom.chr.length ≠ 0) (g : GfxAddr) :
    ∃ b, exec (.grd g) s = .next { s with result := .byte b } ∧ ChrByte s (g.toNat / 1024) (gfxWord g) b := by
  have hk : g.toNat / 1024 < 8 := by have := g.isLt; omega
  have hslot := get_gfxTableOf_false g.isLt
  rw [← hgfx] at hslot
  have hrk : (s.gfxSlots.get g.toNat).rk = .rChr := by rw [hslot]; rfl
  have hrp : (s.gfxSlots.get g.toNat).rp.toNat = g.toNat / 1024 := by
    rw [hslot]
    exact Nat.mod_eq_of_lt (by omega)
  obtain ⟨b, hread, hb⟩ := readSlot_chr (k := ⟨_, hk⟩) (a := gfxWord g) hrk hrp (by rw [gfxWord_toNat]) hS
  exact ⟨b, congrArg _ hread, hb⟩

/-- The CHR byte depends on the ROM, the variant, the style and the CHR registers alone (41_mapper_common.md R155). -/
theorem chrByte_congr {k : Nat} {a : Word} {b : Byte} (hvariant : t.variant = s.variant) (hrom : t.rom = s.rom)
    (hstyle : t.style = s.style) (hchr : t.chrReg = s.chrReg) (hb : ChrByte t k a b) : ChrByte s k a b := by
  simpa only [ChrByte, hvariant, hrom, hstyle, hchr] using hb

end applied

/-- Settles O53: the write is a register write, which leaves the tables, the ROM and the class; both reads go by the
registers after it. -/
theorem bankWriteSeenByNextRead : Obligations.BankWriteSeenByNextRead := by
  intro s r v hcpu hr
  obtain ⟨t, ht, heffect⟩ := regWrite_cases s.variant (swizzle s.wiring r) v s
  obtain ⟨hcpuSlots, hgfxSlots, hrom, hclass, -⟩ := regEffect_frame heffect
  have hvariant : t.variant = s.variant := congrArg variantOf hclass
  have hbanks := regWrite_banks (swizzle_registerSpace _ hr) ht
  refine ⟨t, (exec_wr_register v hcpu hr).trans ht, hcpuSlots, hgfxSlots, ?prg, ?chr⟩
  case prg =>
    intro w hw k hkind a ha hS
    have hcpu' : t.cpuSlots = cpuTableOf t.variant := by rw [hcpuSlots, hcpu, hvariant]
    obtain ⟨b, hread, hb⟩ := exec_rd_swapWindow hcpu' (hvariant ▸ hw) hkind ha (hrom ▸ hS)
    rw [hrom, hbanks.prgReg] at hb
    exact ⟨b, hread, hb⟩
  case chr =>
    intro hgfx hS g
    obtain ⟨b, hread, hb⟩ := exec_grd_chrRom (hgfxSlots.trans hgfx) (hrom ▸ hS) g
    have hchr : t.chrReg = Vector.ofFn fun k => chrWritten s.variant (swizzle s.wiring r) v k s.chrReg[k] :=
      Vector.ext fun k hk => by rw [Vector.getElem_ofFn]; exact hbanks.chrReg ⟨k, hk⟩
    exact ⟨b, hread, chrByte_congr hvariant hrom hbanks.style hchr hb⟩

end Sys2Proof.Proofs.Reads

end

section

namespace Sys2Proof.Proofs.Encoding

open Sys2Proof Sys2Proof.Machine Sys2Proof.Statements
open Sys2Proof.Proofs.Invariants (decodeReg_regWord regWord_isSome_of_row)

/-! ### The operands of a command word -/

section operands

variable {a : Word} {d : Byte} {j : Instr}

@[simp] theorem unusedZero_eq_ok_iff {ok : Bool} {i : Instr} : unusedZero ok i = .ok j ↔ ok = true ∧ i = j := by
  cases ok <;> simp [unusedZero]

theorem gfxAddrOf_eq_some_iff {g : GfxAddr} : gfxAddrOf a = some g ↔ a = gfxWord g := by
  refine ⟨fun h => ?_, fun h => h ▸ gfxAddrOf_gfxWord g⟩
  unfold gfxAddrOf at h
  split at h <;> cases h
  next htop =>
    rw [gfxWord, BitVec.zeroExtend, BitVec.setWidth_eq_append (by decide), ← htop,
      BitVec.extractLsb'_append_extractLsb'_eq_extractLsb' (by rfl)]
    simp

theorem readKindOfCode_eq_some_iff {k : ReadKind} : readKindOfCode d = some k ↔ d = readKindCode k := by
  refine ⟨fun h => ?_, fun h => h ▸ readKindOfCode_readKindCode k⟩
  unfold readKindOfCode at h
  split at h <;> cases h <;> rfl

theorem writeKindOfCode_eq_some_iff {k : WriteKind} : writeKindOfCode d = some k ↔ d = writeKindCode k := by
  refine ⟨fun h => ?_, fun h => h ▸ writeKindOfCode_writeKindCode k⟩
  unfold writeKindOfCode at h
  split at h <;> cases h <;> rfl

@[simp] theorem withGfxAddr_eq_ok_iff {k : GfxAddr → Except Reject Instr} :
    withGfxAddr a k = .ok j ↔ ∃ g, a = gfxWord g ∧ k g = .ok j := by
  simp only [← gfxAddrOf_eq_some_iff, withGfxAddr]
  cases gfxAddrOf a <;> simp

@[simp] theorem withReadKind_eq_ok_iff {k : ReadKind → Except Reject Instr} :
    withReadKind d k = .ok j ↔ ∃ r, d = readKindCode r ∧ k r = .ok j := by
  simp only [← readKindOfCode_eq_some_iff, withReadKind]
  cases readKindOfCode d <;> simp

@[simp] theorem withWriteKind_eq_ok_iff {k : WriteKind → Except Reject Instr} :
    withWriteKind d k = .ok j ↔ ∃ r, d = writeKindCode r ∧ k r = .ok j := by
  simp only [← writeKindOfCode_eq_some_iff, withWriteKind]
  cases writeKindOfCode d <;> simp

theorem exists_gfxWord_iff : (∃ g, a = gfxWord g) ↔ a.extractLsb' 13 3 = 0 := by
  simp only [← gfxAddrOf_eq_some_iff, gfxAddrOf]
  split <;> simp_all

theorem exists_readKindCode_iff : (∃ k, d = readKindCode k) ↔ ¬ 5 < d.toNat := by
  simp only [← readKindOfCode_eq_some_iff, ← Option.isSome_iff_exists]
  revert d
  decide

theorem exists_writeKindCode_iff : (∃ k, d = writeKindCode k) ↔ ¬ 3 < d.toNat := by
  simp only [← writeKindOfCode_eq_some_iff, ← Option.isSome_iff_exists]
  revert d
  decide

end operands

/-! ### Command words: the decoder inverts the encoder -/

/-- A word whose `RSV` is zero is made of its other fields (30_encoding.md R91). -/
theorem eq_cmdWord_of_rsv {w : CmdWord} (h : w.rsv = 0) : w = cmdWord w.op w.addr w.param w.data w.owner := by
  have hrsv : w.extractLsb' 0 8 = 0#8 := h
  unfold cmdWord CmdWord.op CmdWord.addr CmdWord.param CmdWord.data CmdWord.owner
  rw [← hrsv]
  iterate 5 rw [BitVec.extractLsb'_append_extractLsb'_eq_extractLsb' (by rfl)]
  simp

theorem checksum_append (c : Checksum) : c.extractLsb' 16 16 ++ c.extractLsb' 0 16 = c := by
  rw [BitVec.extractLsb'_append_extractLsb'_eq_extractLsb' (by rfl)]
  simp

/-- The halves of a checksum stand in `ADDR` and `PARAM` (R93). -/
theorem encodeCmd_lookup_append (addr param : Word) :
    encodeCmd (.lookup (addr ++ param)) = some (cmdWord 0x41 addr param 0 0) :=
  congrArg₂ (fun hi lo => some (cmdWord 0x41 hi lo 0 0)) BitVec.extractLsb'_append_eq_left
    BitVec.extractLsb'_append_eq_right

theorem decodeCmd_of_encodeCmd {w : CmdWord} {i : Instr} (h : encodeCmd i = some w) : decodeCmd w = .ok i := by
  cases i <;> cases h <;> rw [decodeCmd_cmdWord]
  case lookup c => simp [decodeOp, checksum_append]
  all_goals simp [decodeOp]

/-- Under each operation code the fields in use give the operands and the others are zero (R92, R97). -/
theorem encodeCmd_of_decodeOp {op : BitVec 8} {addr param : Word} {data owner : Byte} {i : Instr}
    (h : decodeOp op addr param data owner = .ok i) : encodeCmd i = some (cmdWord op addr param data owner) := by
  unfold decodeOp at h
  split at h <;> simp only [unusedZero_eq_ok_iff, withGfxAddr_eq_ok_iff, withReadKind_eq_ok_iff,
    withWriteKind_eq_ok_iff, Bool.and_eq_true, beq_iff_eq, Except.ok.injEq, reduceCtorEq] at h
  case h_1 => obtain ⟨⟨⟨rfl, rfl⟩, rfl⟩, rfl⟩ := h; rfl
  case h_2 | h_12 => obtain ⟨⟨rfl, rfl⟩, rfl⟩ := h; rfl
  case h_3 => obtain ⟨g, rfl, ⟨⟨rfl, rfl⟩, rfl⟩, rfl⟩ := h; rfl
  case h_4 => obtain ⟨g, rfl, ⟨rfl, rfl⟩, rfl⟩ := h; rfl
  case h_5 | h_6 => obtain ⟨k, rfl, rfl⟩ := h; rfl
  case h_7 | h_8 => obtain ⟨g, rfl, k, rfl, rfl⟩ := h; rfl
  case h_9 | h_10 | h_11 => obtain ⟨⟨⟨⟨rfl, rfl⟩, rfl⟩, rfl⟩, rfl⟩ := h; rfl
  case h_13 =>
    obtain ⟨⟨rfl, rfl⟩, rfl⟩ := h
    exact encodeCmd_lookup_append addr param

theorem decodeCmd_eq_ok_iff {w : CmdWord} {i : Instr} : decodeCmd w = .ok i ↔ encodeCmd i = some w := by
  refine ⟨fun h => ?_, decodeCmd_of_encodeCmd⟩
  unfold decodeCmd at h
  split at h
  · next hrsv => rw [eq_cmdWord_of_rsv hrsv]; exact encodeCmd_of_decodeOp h
  · cases h

/-! ### Command words: which are commands -/

/-- Under each operation code the decoder and R99 ask the same of the same fields. -/
theorem decodeCmd_ok_iff (w : CmdWord) : (∃ i, decodeCmd w = .ok i) ↔ ¬ NotACommand w := by
  unfold decodeCmd decodeOp NotACommand CmdWord.op CmdWord.addr CmdWord.param CmdWord.data CmdWord.owner CmdWord.rsv
  generalize w.extractLsb' 56 8 = op, w.extractLsb' 40 16 = addr, w.extractLsb' 24 16 = param,
    w.extractLsb' 16 8 = data, w.extractLsb' 8 8 = owner, w.extractLsb' 0 8 = rsv
  by_cases hrsv : rsv = 0
  · rw [if_pos hrsv]
    split
    case h_14 => exact iff_of_false nofun (not_not_intro (.inl (by simp_all)))
    all_goals simp [hrsv, exists_readKindCode_iff, exists_writeKindCode_iff, exists_gfxWord_iff,
      and_assoc, and_comm, and_left_comm]
  · rw [if_neg hrsv]
    exact iff_of_false nofun (not_not_intro (.inr (.inl hrsv)))

theorem decodeCmd_error_of_notACommand {w : CmdWord} (h : NotACommand w) : ∃ why, decodeCmd w = .error why := by
  cases hdecode : decodeCmd w with
  | ok i => exact absurd h ((decodeCmd_ok_iff w).1 ⟨i, hdecode⟩)
  | error why => exact ⟨why, rfl⟩

/-- Settles O3: the decoder answers an error on such a word, and `step` refuses with that reason. -/
theorem wordsThatAreNotCommands : Obligations.WordsThatAreNotCommands := by
  refine ⟨decodeCmd_ok_iff, fun s l rest htrace h => ?_⟩
  obtain ⟨why, hwhy⟩ := decodeCmd_error_of_notACommand h
  exact ⟨why, by simp only [step, htrace, hwhy]⟩

/-! ### Rows of the register maps: mask and match as group and selector -/

section rows

variable {ca mask pattern : Word} {v : Byte} {m : Variant} {i : Instr}

/-- A canonical address is its group, ten bits between, and its selector (30_encoding.md R100). -/
theorem word_eq_iff {x y : Word} :
    x = y ↔ regGroup x = regGroup y ∧ x.extractLsb' 2 10 = y.extractLsb' 2 10 ∧ regSel x = regSel y := by
  have hsplit (z : Word) : z = regGroup z ++ z.extractLsb' 2 10 ++ regSel z := by
    unfold regGroup regSel
    iterate 2 rw [BitVec.extractLsb'_append_extractLsb'_eq_extractLsb' (by rfl)]
    simp
  refine ⟨fun h => h ▸ ⟨rfl, rfl, rfl⟩, fun ⟨hgroup, hmiddle, hsel⟩ => ?_⟩
  rw [hsplit x, hsplit y, hgroup, hmiddle, hsel]

/-- Where mask and pattern leave the ten bits between group and selector alone, a row's match is one of the group and
one of the selector (R108). -/
theorem rowMatches_iff (hmask : mask.extractLsb' 2 10 = 0) (hpattern : pattern.extractLsb' 2 10 = 0) :
    rowMatches mask pattern ca = true ↔
      regGroup ca &&& regGroup mask = regGroup pattern ∧ regSel ca &&& regSel mask = regSel pattern := by
  rw [rowMatches, beq_iff_eq, word_eq_iff, BitVec.extractLsb'_and, hmask, hpattern]
  simp [regGroup, regSel, BitVec.extractLsb'_and]

/-- The rows that read bit 15 alone (R242, R247). -/
theorem rowMatches_bit15_iff : rowMatches 0x8000 0x8000 ca = true ↔ ca.getLsbD 15 = true := by
  have hhigh : ∀ g : BitVec 4, g &&& 8 = 8 ↔ g.getLsbD 3 = true := by decide
  have hbit : ca.getLsbD 15 = (regGroup ca).getLsbD 3 := by simp [regGroup]
  rw [rowMatches_iff rfl rfl, hbit, ← hhigh]
  change _ ∧ regSel ca &&& 0#2 = 0#2 ↔ _
  rw [BitVec.and_zero, and_iff_left rfl]
  rfl

/-- The rows that read the group alone. -/
theorem rowMatches_group_iff (hpattern : pattern.extractLsb' 2 10 = 0) (hsel : regSel pattern = 0) :
    rowMatches 0xF000 pattern ca = true ↔ regGroup ca = regGroup pattern := by
  rw [rowMatches_iff rfl hpattern, hsel]
  change regGroup ca &&& BitVec.allOnes 4 = _ ∧ regSel ca &&& 0#2 = 0#2 ↔ _
  rw [BitVec.and_allOnes, BitVec.and_zero, and_iff_left rfl]

/-- The rows that read the group and the selector's high bit. -/
theorem rowMatches_group_selHigh_iff (hpattern : pattern.extractLsb' 2 10 = 0) (heven : regSel pattern &&& 1 = 0) :
    rowMatches 0xF002 pattern ca = true ↔
      regGroup ca = regGroup pattern ∧ (regSel ca = regSel pattern ∨ regSel ca = regSel pattern + 1) := by
  have hhigh : ∀ x y : BitVec 2, y &&& 1 = 0 → (x &&& 2 = y ↔ x = y ∨ x = y + 1) := by decide
  rw [rowMatches_iff rfl hpattern]
  change regGroup ca &&& BitVec.allOnes 4 = _ ∧ regSel ca &&& 2 = _ ↔ _
  rw [BitVec.and_allOnes, hhigh _ _ heven]

/-- The rows that read group and selector. -/
theorem rowMatches_group_sel_iff (hpattern : pattern.extractLsb' 2 10 = 0) :
    rowMatches 0xF003 pattern ca = true ↔ regGroup ca = regGroup pattern ∧ regSel ca = regSel pattern := by
  rw [rowMatches_iff rfl hpattern]
  change regGroup ca &&& BitVec.allOnes 4 = _ ∧ regSel ca &&& BitVec.allOnes 2 = _ ↔ _
  rw [BitVec.and_allOnes, BitVec.and_allOnes]

/-! ### Rows of the register maps: what `decodeReg` answers -/

theorem decodeV2_row (h : decodeV2 ca v = some i) : i.format = .regw .v2 ∧ i.wellFormed = true := by
  unfold decodeV2 at h
  split at h <;> cases h <;> refine ⟨rfl, ?_⟩
  case h_1 | h_6 => exact (rowMatches_group_iff rfl rfl).2 (by assumption)
  case h_2 | h_4 => exact (rowMatches_group_selHigh_iff rfl rfl).2 ⟨by assumption, .inl (by assumption)⟩
  case h_3 | h_5 => exact (rowMatches_group_selHigh_iff rfl rfl).2 ⟨by assumption, .inr (by assumption)⟩
  all_goals exact (rowMatches_group_sel_iff rfl).2 ⟨by assumption, by assumption⟩

theorem decodeV3_row (h : decodeV3 ca v = some i) : i.format = .regw .v3 ∧ i.wellFormed = true := by
  unfold decodeV3 at h
  split at h <;> cases h <;> refine ⟨rfl, ?_⟩
  case h_1 | h_2 | h_3 | h_8 => exact (rowMatches_group_iff rfl rfl).2 (by assumption)
  all_goals exact (rowMatches_group_sel_iff rfl).2 ⟨by assumption, by assumption⟩

theorem decodeReg_row (h : decodeReg m ca v = some i) : i.format = .regw m ∧ i.wellFormed = true := by
  cases m with
  | v0 | v1 =>
    obtain ⟨h15, h⟩ := Option.ite_none_right_eq_some.1 h
    cases h
    exact ⟨rfl, rowMatches_bit15_iff.2 h15⟩
  | v2 => exact decodeV2_row h
  | v3 => exact decodeV3_row h

theorem decodeV2_of_row (hf : i.format = .regw .v2) (hr : i.regWord = some (ca, v)) (hw : i.wellFormed = true) :
    decodeV2 ca v = some i := by
  unfold decodeV2
  cases i <;> cases hf <;> cases hr
  case v2Prg0 | v2Prg1 => rw [(rowMatches_group_iff rfl rfl).1 hw]; rfl
  case v2Mirror | v2SwapmodeNop =>
    obtain ⟨hgroup, hsel | hsel⟩ := (rowMatches_group_selHigh_iff rfl rfl).1 hw <;> rw [hgroup, hsel] <;> rfl
  all_goals
    obtain ⟨hgroup, hsel⟩ := (rowMatches_group_sel_iff rfl).1 hw
    rw [hgroup, hsel]
    rfl

theorem decodeV3_of_row (hf : i.format = .regw .v3) (hr : i.regWord = some (ca, v)) (hw : i.wellFormed = true) :
    decodeV3 ca v = some i := by
  unfold decodeV3
  cases i <;> cases hf <;> cases hr
  case v3Prg0 | v3Sound9Nop | v3SoundANop | v3Prg1 => rw [(rowMatches_group_iff rfl rfl).1 hw]; rfl
  all_goals
    obtain ⟨hgroup, hsel⟩ := (rowMatches_group_sel_iff rfl).1 hw
    rw [hgroup, hsel]
    rfl

theorem decodeReg_of_row (hf : i.format = .regw m) (hr : i.regWord = some (ca, v)) (hw : i.wellFormed = true) :
    decodeReg m ca v = some i := by
  cases m with
  | v0 | v1 =>
    cases i <;> cases hf
    cases hr
    exact if_pos (rowMatches_bit15_iff.1 hw)
  | v2 => exact decodeV2_of_row hf hr hw
  | v3 => exact decodeV3_of_row hf hr hw

theorem decodeReg_eq_some_iff :
    decodeReg m ca v = some i ↔ i.format = .regw m ∧ i.regWord = some (ca, v) ∧ i.wellFormed = true := by
  refine ⟨fun h => ?_, fun ⟨hf, hr, hw⟩ => decodeReg_of_row hf hr hw⟩
  obtain ⟨hf, hw⟩ := decodeReg_row h
  exact ⟨hf, decodeReg_regWord h, hw⟩

end rows

theorem regWord_eq_none_of_cmd {i : Instr} (hf : i.format = .cmd) : i.regWord = none := by
  cases i <;> cases hf <;> rfl

/-- Two rows of one format that match one address are what that format's map decodes there. -/
theorem row_unique {i j : Instr} (hf : i.format = j.format) (hr : i.regWord = j.regWord) (hsome : i.regWord.isSome)
    (hi : i.wellFormed = true) (hj : j.wellFormed = true) : i = j := by
  obtain ⟨⟨ca, v⟩, hword⟩ := Option.isSome_iff_exists.1 hsome
  cases hformat : i.format with
  | cmd => rw [regWord_eq_none_of_cmd hformat] at hword; cases hword
  | regw m =>
    have hdecode_i := decodeReg_eq_some_iff.2 ⟨hformat, hword, hi⟩
    have hdecode_j := decodeReg_eq_some_iff.2 ⟨hf ▸ hformat, hr ▸ hword, hj⟩
    exact Option.some.inj (hdecode_i.symm.trans hdecode_j)

/-- Settles O6: rows of one format cannot overlap, because `decodeReg` answers each of them. -/
theorem registerRowsMatchExactly : Obligations.RegisterRowsMatchExactly :=
  ⟨fun _ _ _ _ => decodeReg_eq_some_iff, fun _ _ => row_unique⟩

/-! ### Bytes -/

section bytes

variable {bs rest : List Byte} {i : Instr}

theorem bytesOfWord_append (b7 b6 b5 b4 b3 b2 b1 b0 : Byte) :
    bytesOfWord (b7 ++ b6 ++ b5 ++ b4 ++ b3 ++ b2 ++ b1 ++ b0) = [b7, b6, b5, b4, b3, b2, b1, b0] := by
  simp only [bytesOfWord, List.cons.injEq, and_true]
  refine ⟨?_, ?_, ?_, ?_, ?_, ?_, ?_, ?_⟩ <;> ext n hn <;> simp <;> grind

theorem wordOfBytes_eq_some_iff {w : CmdWord} : wordOfBytes bs = some (w, rest) ↔ bs = bytesOfWord w ++ rest := by
  constructor
  · intro h
    unfold wordOfBytes at h
    split at h <;> cases h
    rw [bytesOfWord_append]
    rfl
  · rintro rfl
    simp only [wordOfBytes, bytesOfWord, List.cons_append]
    iterate 7 rw [BitVec.extractLsb'_append_extractLsb'_eq_extractLsb' (by rfl)]
    simp

theorem regOfBytes_eq_some_iff {ca : Word} {v : Byte} :
    regOfBytes bs = some (ca, v, rest) ↔ bs = bytesOfReg ca v ++ rest := by
  constructor
  · intro h
    unfold regOfBytes at h
    split at h <;> cases h
    rw [bytesOfReg, BitVec.extractLsb'_append_eq_left, BitVec.extractLsb'_append_eq_right]
    rfl
  · rintro rfl
    simp only [regOfBytes, bytesOfReg, List.cons_append]
    rw [BitVec.extractLsb'_append_extractLsb'_eq_extractLsb' (by rfl)]
    simp

theorem decode_cmd_eq_ok_iff :
    decode .cmd bs = .ok (i, rest) ↔ ∃ w, wordOfBytes bs = some (w, rest) ∧ decodeCmd w = .ok i := by
  unfold decode
  dsimp only
  split
  · split <;> simp_all [and_comm]
  · simp_all

theorem decode_regw_eq_ok_iff {m : Variant} :
    decode (.regw m) bs = .ok (i, rest) ↔ ∃ ca v, regOfBytes bs = some (ca, v, rest) ∧ decodeReg m ca v = some i := by
  unfold decode
  dsimp only
  split
  · split <;> simp_all [and_comm]
  · simp_all

/-! ### Instructions: the decoder inverts the encoder -/

theorem format_eq_cmd_iff : i.format = .cmd ↔ ∃ w, encodeCmd i = some w := by
  cases i
  case rd | wr | grd | gwr | setrf | setwf | gsetrf | gsetwf | init | apply | tick | classify | lookup =>
    exact ⟨fun _ => ⟨_, rfl⟩, fun _ => rfl⟩
  all_goals exact ⟨nofun, nofun⟩

theorem wellFormed_of_cmd (hf : i.format = .cmd) : i.wellFormed = true := by
  cases i <;> cases hf <;> rfl

theorem encode_of_cmd {w : CmdWord} (h : encodeCmd i = some w) : encode i = bytesOfWord w := by
  rw [encode, h]

theorem encode_of_row {ca : Word} {v : Byte} (hf : i.format ≠ .cmd) (hr : i.regWord = some (ca, v)) :
    encode i = bytesOfReg ca v := by
  have hnone : encodeCmd i = none := Option.eq_none_iff_forall_ne_some.2 fun w h => hf (format_eq_cmd_iff.2 ⟨w, h⟩)
  rw [encode, hnone, hr]

theorem decode_cmd_iff :
    decode .cmd bs = .ok (i, rest) ↔ i.format = .cmd ∧ i.wellFormed = true ∧ bs = encode i ++ rest := by
  simp only [decode_cmd_eq_ok_iff, wordOfBytes_eq_some_iff, decodeCmd_eq_ok_iff]
  constructor
  · rintro ⟨w, hbs, hw⟩
    have hf := format_eq_cmd_iff.2 ⟨w, hw⟩
    exact ⟨hf, wellFormed_of_cmd hf, by rwa [encode_of_cmd hw]⟩
  · rintro ⟨hf, -, hbs⟩
    obtain ⟨w, hw⟩ := format_eq_cmd_iff.1 hf
    exact ⟨w, by rwa [← encode_of_cmd hw], hw⟩

theorem decode_regw_iff {m : Variant} :
    decode (.regw m) bs = .ok (i, rest) ↔ i.format = .regw m ∧ i.wellFormed = true ∧ bs = encode i ++ rest := by
  simp only [decode_regw_eq_ok_iff, regOfBytes_eq_some_iff, decodeReg_eq_some_iff]
  constructor
  · rintro ⟨ca, v, hbs, hf, hr, hw⟩
    exact ⟨hf, hw, by rwa [encode_of_row (hf ▸ nofun) hr]⟩
  · rintro ⟨hf, hw, hbs⟩
    have hrow : i.format ≠ .cmd := hf ▸ nofun
    obtain ⟨⟨ca, v⟩, hr⟩ := Option.isSome_iff_exists.1 (regWord_isSome_of_row hrow)
    exact ⟨ca, v, by rwa [← encode_of_row hrow hr], hf, hr, hw⟩

/-- The decoder of a format accepts exactly the encodings of that format's well-formed instructions. -/
theorem decode_eq_ok_iff {f : Format} :
    decode f bs = .ok (i, rest) ↔ i.format = f ∧ i.wellFormed = true ∧ bs = encode i ++ rest := by
  cases f with
  | cmd => exact decode_cmd_iff
  | regw m => exact decode_regw_iff

end bytes

/-- Settles O4: `decode_eq_ok_iff` from right to left. -/
theorem decodeOfEncode : Obligations.DecodeOfEncode := fun _ _ hw => decode_eq_ok_iff.2 ⟨rfl, hw, rfl⟩

/-- Settles O5: `decode_eq_ok_iff` from left to right. -/
theorem encodeOfDecode : Obligations.EncodeOfDecode := fun _ _ _ _ => decode_eq_ok_iff.1

/-- Settles O7, by running the decoders on the words. -/
theorem writtenOutWords : Obligations.WrittenOutWords := by
  unfold Obligations.WrittenOutWords
  decide

end Sys2Proof.Proofs.Encoding

end

section

namespace Sys2Proof.Proofs.BusDispatch

open Sys2Proof Sys2Proof.Machine Sys2Proof.Statements
open Sys2Proof.Proofs.Invariants (regWrite_eq load_cpuSlots load_gfxSlots)
open Sys2Proof.Proofs.Reads (exec_of_readAccess readSlot_chr regGroup_toNat swizzle_msb prgWin_base_le)

/-! ### The handlers, one lemma per kind -/

/-- A bus write is a write through its slot (40_bus_dispatch.md R123, R125). -/
theorem exec_of_writeAccess {s : State} {i : Instr} {x : Slot} {a : Word} {v : Byte} (h : WriteAccess s i x a v) :
    exec i s = s.writeSlot x a v := by
  obtain ⟨rfl, rfl⟩ | ⟨g, rfl, rfl, rfl⟩ := h <;> rfl

section handlers

variable {s : State} {x : Slot} {a : Word}

theorem readSlot_of_openBus (h : s.readSource x.rk x.ro x.rp a = .openBus) : s.readSlot x a = openBusAnswer s := by
  rw [State.readSlot, h]; rfl

theorem readSlot_ext (hx : x.rk = .rExt) : s.readSlot x a = s.answerExt x.ro x.rp a := by
  rw [State.readSlot, hx]; rfl

theorem readSlot_chrRam (hx : x.rk = .rChrRam) :
    s.readSlot x a = { s with result := .byte (s.chrRamByte (a.toNat % 8192)) } := by
  rw [State.readSlot, hx]; rfl

theorem writeSlot_ignore (v : Byte) (hx : x.wk = .wIgnore) : s.writeSlot x a v = .next s := by
  rw [State.writeSlot, hx]

theorem writeSlot_reg (v : Byte) (hx : x.wk = .wReg) :
    s.writeSlot x a v = regWrite s.variant (swizzle s.wiring a) v s := by
  rw [State.writeSlot, hx, State.writeRegister]

theorem writeSlot_chrRam (v : Byte) (hx : x.wk = .wChrRam) :
    s.writeSlot x a v = .next (s.writeChrRam (a.toNat % 8192) v) := by
  rw [State.writeSlot, hx]

theorem writeSlot_ext (v : Byte) (hx : x.wk = .wExt) :
    s.writeSlot x a v = .next (s.emit (.extWrite x.wo x.wp a v)) := by
  rw [State.writeSlot, hx]

end handlers

/-- Settles O11, by the handlers of the two kinds. -/
theorem openBusAndExternalReads : Obligations.OpenBusAndExternalReads := by
  intro s i x a haccess
  rw [exec_of_readAccess haccess]
  exact ⟨fun hx => congrArg _ (readSlot_of_openBus (by rw [hx]; rfl)), fun hx => congrArg _ (readSlot_ext hx)⟩

/-- Settles O17, by the handlers of the two kinds. -/
theorem ignoredAndExternalWrites : Obligations.IgnoredAndExternalWrites := by
  intro s i x a v haccess
  rw [exec_of_writeAccess haccess]
  exact ⟨writeSlot_ignore v, writeSlot_ext v⟩

/-! ### Kinds that do not fit their table (40_bus_dispatch.md R134) -/

section misfits

variable {s : State} {p a ca : Word}

/-- A fixed-bank route reads open bus wherever its parameter names no fixed window that covers the address. -/
theorem prgFixedSource_of_not_inWindow
    (h : ∀ w, (prgWin s.variant)[p.toNat]? = some w → w.kind = .fixed → ¬ InWindow w a) :
    s.prgFixedSource p a = .openBus := by
  unfold State.prgFixedSource
  split
  case h_1 => rfl
  case h_2 w hw =>
    split
    case h_1 => rfl
    case h_2 hkind =>
      have hout := h w hw hkind
      unfold InWindow at hout
      exact if_pos (by omega)

/-- A swappable-bank route reads open bus wherever its parameter names no swappable window that covers the address. -/
theorem prgSwapSource_of_not_inWindow
    (h : ∀ w k, (prgWin s.variant)[p.toNat]? = some w → w.kind = .swap k → ¬ InWindow w a) :
    s.prgSwapSource p a = .openBus := by
  unfold State.prgSwapSource
  split
  case h_1 => rfl
  case h_2 w hw =>
    split
    case h_1 => rfl
    case h_2 k hkind =>
      have hout := h w k hw hkind
      unfold InWindow at hout
      exact if_pos (by omega)

/-- A CHR-ROM route reads open bus outside the 1 KiB slot its parameter names (41_mapper_common.md R155, R157). -/
theorem chrSource_of_not_inSlot (h : ¬ (a.toNat < 0x2000 ∧ a.toNat / 1024 = p.toNat)) :
    s.chrSource p a = .openBus := by
  unfold State.chrSource
  split
  case isTrue => exact if_pos (by omega)
  case isFalse => rfl

/-- The graphics bus ends below every PRG window. -/
theorem not_inWindow_gfxWord {m : Variant} {w : PrgWindow} {n : Nat} (hw : (prgWin m)[n]? = some w) (g : GfxAddr) :
    ¬ InWindow w (gfxWord g) := by
  rintro ⟨hlo, -⟩
  have hbase := prgWin_base_le m w (List.mem_of_getElem? hw)
  rw [gfxWord_toNat] at hlo
  omega

/-- No row of any variant matches below register space: each row's group is 8 or more (30_encoding.md R103). -/
theorem decodeReg_of_low (m : Variant) (v : Byte) (h : ca.toNat < 0x8000) : decodeReg m ca v = none := by
  have hgroup : (regGroup ca).toNat < 8 := by rw [regGroup_toNat]; omega
  have h15 : ca[15] = false := by
    simpa [BitVec.msb_eq_getLsbD_last, Nat.not_le.mpr h] using BitVec.msb_eq_decide ca
  cases m with
  | v0 | v1 => simp [decodeReg, h15]
  | v2 | v3 =>
    simp only [decodeReg, decodeV2, decodeV3]
    split <;> simp_all

/-- No wiring brings an address below register space into it (42_swizzle.md R180). -/
theorem swizzle_low (w : Wiring) (h : a.toNat < 0x8000) : (swizzle w a).toNat < 0x8000 := by
  have hmsb := swizzle_msb w a
  simp only [BitVec.msb_eq_decide, decide_eq_decide] at hmsb
  omega

/-- A register write below register space is a no-op (30_encoding.md R103, 41_mapper_common.md R156). -/
theorem regWrite_of_low (v : Byte) (h : a.toNat < 0x8000) :
    regWrite s.variant (swizzle s.wiring a) v s = .next s := by
  rw [regWrite_eq, decodeReg_of_low _ _ (swizzle_low _ h)]
  rfl

end misfits

/-- R134 on the graphics table: the PRG kinds. -/
theorem exec_grd_prgKind {s : State} {g : GfxAddr}
    (hk : (s.gfxSlots.get g.toNat).rk = .rPrgFixed ∨ (s.gfxSlots.get g.toNat).rk = .rPrgSwap) :
    exec (.grd g) s = .next (openBusAnswer s) := by
  refine congrArg _ (readSlot_of_openBus ?_)
  obtain hk | hk := hk <;> rw [hk]
  · exact prgFixedSource_of_not_inWindow fun w hw _ => not_inWindow_gfxWord hw g
  · exact prgSwapSource_of_not_inWindow fun w _ hw _ => not_inWindow_gfxWord hw g

/-- R134 on the graphics table: `W_REG`. -/
theorem exec_gwr_reg {s : State} {g : GfxAddr} (v : Byte) (hk : (s.gfxSlots.get g.toNat).wk = .wReg) :
    exec (.gwr g v) s = .next s :=
  (writeSlot_reg v hk).trans (regWrite_of_low v (by rw [gfxWord_toNat]; omega))

/-- Settles O19: a PRG kind lies outside every window and `W_REG` outside register space, on the graphics bus; the CHR
kinds answer by the address alone, whichever table holds them. -/
theorem kindsOnTheOtherTable : Obligations.KindsOnTheOtherTable := by
  refine ⟨fun s g => ⟨exec_grd_prgKind, exec_gwr_reg⟩, fun s a => ⟨fun hk => ⟨?outside, ?inside⟩, ?ramRead, ?ramWrite⟩⟩
  case outside =>
    intro hout
    exact congrArg _ (readSlot_of_openBus (by rw [hk]; exact chrSource_of_not_inSlot hout))
  case inside =>
    intro ha hslot hS
    obtain ⟨b, hread, hb⟩ := readSlot_chr (k := ⟨a.toNat / 1024, by omega⟩) hk hslot.symm rfl hS
    exact ⟨b, congrArg _ hread, hb⟩
  case ramRead => exact fun hk => congrArg _ (readSlot_chrRam hk)
  case ramWrite =>
    intro v hk
    exact ⟨_, writeSlot_chrRam v hk, by rw [State.chrRamByte_writeChrRam, if_pos rfl]⟩

/-! ### What changes a slot -/

/-- Settles O21: a change of one slot leaves every other slot (`SlotTable.get_modify_one`), and `Slot.setRead` and
`Slot.setWrite` each replace one half. -/
theorem slotProgramming : Obligations.SlotProgramming := fun _ _ _ _ _ _ _ =>
  ⟨⟨_, rfl, rfl, fun _ => SlotTable.get_modify_one _ _⟩, ⟨_, rfl, rfl, fun _ => SlotTable.get_modify_one _ _⟩,
    ⟨_, rfl, rfl, fun _ => SlotTable.get_modify_one _ _⟩, ⟨_, rfl, rfl, fun _ => SlotTable.get_modify_one _ _⟩⟩

/-- Settles O22: the effects that write a table are those of the four slot operations and of `APPLY`. -/
theorem tablesChangeOnlyByHost : Obligations.TablesChangeOnlyByHost := by
  intro i s t h hsetrf hsetwf hgsetrf hgsetwf happly
  cases exec_cases h with
  | cpuSlot _ _ hi =>
    obtain ⟨k, o, p, hi⟩ | ⟨k, o, p, hi⟩ := hi
    · exact absurd hi (hsetrf _ k o p)
    · exact absurd hi (hsetwf _ k o p)
  | gfxSlot _ _ hi =>
    obtain ⟨k, o, p, hi⟩ | ⟨k, o, p, hi⟩ := hi
    · exact absurd hi (hgsetrf _ k o p)
    · exact absurd hi (hgsetwf _ k o p)
  | install hi => exact absurd hi happly
  | register he =>
    obtain ⟨hcpu, hgfx, -⟩ := regEffect_frame he
    exact ⟨hcpu, hgfx⟩
  | load _ => exact ⟨load_cpuSlots _ _ _, load_gfxSlots _ _ _⟩
  | chrRam _ _ _ | event _ | answer _ _ | count _ _ => exact ⟨rfl, rfl⟩

end Sys2Proof.Proofs.BusDispatch

end

section

namespace Sys2Proof.Proofs.MapperCommon

open Sys2Proof Sys2Proof.Machine Sys2Proof.Statements
open Sys2Proof.Proofs.Invariants (regWrite_eq load_cpuSlots load_gfxSlots load_trace load_imageIn)
open Sys2Proof.Proofs.Reads (exec_of_readAccess readSlot_prgSwap readSlot_chr fixedOffset_lt prgFixedSource_of_empty
  prgSwapSource_of_empty chrSource_of_empty get_cpuTableOf get_gfxTableOf_false prgWin_base_le)
open Sys2Proof.Proofs.BusDispatch (exec_of_writeAccess readSlot_of_openBus readSlot_chrRam writeSlot_reg
  writeSlot_chrRam prgFixedSource_of_not_inWindow prgSwapSource_of_not_inWindow chrSource_of_not_inSlot)

/-! ### The PRG windows (41_mapper_common.md R153, R154, R162) -/

section prgReads

variable {s : State} {x : Slot} {p a : Word}

theorem prgFixedSource_of_inWindow {w : PrgWindow} (hw : (prgWin s.variant)[p.toNat]? = some w)
    (hkind : w.kind = .fixed) (ha : InWindow w a) (hS : s.rom.prg.length ≠ 0) :
    s.prgFixedSource p a = .prg (fixedBankOffset (a.toNat - w.base) s.fixedOffset s.rom.prg.length) := by
  obtain ⟨hlo, hhi⟩ := ha
  have hin : ¬ (a.toNat < w.base ∨ w.base + w.size ≤ a.toNat ∨ s.rom.prg.length = 0) := by omega
  simp only [State.prgFixedSource, hw, hkind, if_neg hin]

/-- The fixed PRG window answers the byte of the fixed bank (41_mapper_common.md R153). -/
theorem readSlot_prgFixed {w : PrgWindow} (hinv : s.Inv) (hx : x.rk = .rPrgFixed)
    (hw : (prgWin s.variant)[x.rp.toNat]? = some w) (hkind : w.kind = .fixed) (ha : InWindow w a)
    (hS : s.rom.prg.length ≠ 0) :
    ∃ b, s.rom.prg.byteAt (fixedBankOffset (a.toNat - w.base) s.fixedOffset s.rom.prg.length) = some b ∧
      s.readSlot x a = { s with result := .byte b } := by
  obtain ⟨b, hb⟩ := ByteSeq.byteAt_lt (fixedBankOffset_lt (d := a.toNat - w.base) (fixedOffset_lt hinv hS))
  refine ⟨b, hb, ?_⟩
  simp only [State.readSlot, State.readSource, hx, prgFixedSource_of_inWindow hw hkind ha hS, State.answerFrom, hb,
    answerRom_some, State.answer]

/-- A fixed-bank route reads open bus of an empty PRG, and outside the window its parameter names. -/
theorem readSlot_prgFixed_openBus (hx : x.rk = .rPrgFixed)
    (h : ∀ w, (prgWin s.variant)[x.rp.toNat]? = some w → w.kind = .fixed →
      ¬ (InWindow w a ∧ s.rom.prg.length ≠ 0)) : s.readSlot x a = openBusAnswer s := by
  refine readSlot_of_openBus ?_
  rw [hx]
  by_cases hS : s.rom.prg.length = 0
  · exact prgFixedSource_of_empty hS
  · exact prgFixedSource_of_not_inWindow fun w hw hkind ha => h w hw hkind ⟨ha, hS⟩

/-- A swappable-bank route reads open bus of an empty PRG, and outside the window its parameter names. -/
theorem readSlot_prgSwap_openBus (hx : x.rk = .rPrgSwap)
    (h : ∀ w r, (prgWin s.variant)[x.rp.toNat]? = some w → w.kind = .swap r →
      ¬ (InWindow w a ∧ s.rom.prg.length ≠ 0)) : s.readSlot x a = openBusAnswer s := by
  refine readSlot_of_openBus ?_
  rw [hx]
  by_cases hS : s.rom.prg.length = 0
  · exact prgSwapSource_of_empty hS
  · exact prgSwapSource_of_not_inWindow fun w r hw hkind ha => h w r hw hkind ⟨ha, hS⟩

end prgReads

/-- Settles O12: the invariant keeps the fixed bank inside the ROM, so its byte exists. -/
theorem fixedBankRead : Obligations.FixedBankRead := by
  intro s i x a hinv haccess hx
  rw [exec_of_readAccess haccess]
  refine ⟨fun w hw hkind ha hS => ?window, fun h => congrArg _ (readSlot_prgFixed_openBus hx h)⟩
  obtain ⟨b, hb, hread⟩ := readSlot_prgFixed hinv hx hw hkind ha hS
  exact ⟨b, hb, congrArg _ hread⟩

/-- Settles O13: the offset of a swappable bank is a remainder by the ROM's size, so its byte exists. -/
theorem swappableBankRead : Obligations.SwappableBankRead := by
  intro s i x a haccess hx
  rw [exec_of_readAccess haccess]
  refine ⟨fun w r hw hkind ha hS => ?window, fun h => congrArg _ (readSlot_prgSwap_openBus hx h)⟩
  obtain ⟨b, hread, hb⟩ := readSlot_prgSwap hx hw hkind ha hS
  exact ⟨b, hb, congrArg _ hread⟩

section closedForms

variable {d r B k : Nat}

theorem bankCount_mul (hB : 0 < B) (hk : 0 < k) : bankCount (k * B) B = k := by
  rw [bankCount, Nat.mul_div_cancel k hB, Nat.max_eq_right hk]

/-- In a ROM of `k` whole banks the register's remainder may be taken of the byte offset instead. -/
theorem swapOffset_mul (hB : 0 < B) (hk : 0 < k) : swapOffset d r B (k * B) = (d + r * B) % (k * B) := by
  rw [swapOffset, bankCount_mul hB hk, ← Nat.mul_mod_mul_right, Nat.add_mod_mod]

end closedForms

/-- Settles O14: with whole banks the final remainder of R154 changes nothing, and taken alone it suffices. -/
theorem swappableReadClosedForms : Obligations.SwappableReadClosedForms := by
  intro s i x a w r k haccess hx hw hkind ha hS hk
  have hd : a.toNat - w.base < w.size := by obtain ⟨hlo, hhi⟩ := ha; omega
  have hB : 0 < w.size := Nat.zero_lt_of_lt hd
  have hle : w.size ≤ s.rom.prg.length := hS ▸ Nat.le_mul_of_pos_left w.size hk
  have hbanks : s.rom.prg.length / w.size = bankCount s.rom.prg.length w.size := by
    rw [hS, bankCount_mul hB hk, Nat.mul_div_cancel k hB]
  obtain ⟨b, hread, hb⟩ := readSlot_prgSwap hx hw hkind ha (by omega)
  refine ⟨b, ?bankInRom, ?offsetInRom, (exec_of_readAccess haccess).trans (congrArg _ hread)⟩
  case bankInRom => rw [hbanks, ← swapOffset_of_le hd hle, hb]
  case offsetInRom => rw [← hb, hS, swapOffset_mul hB hk]

/-! ### CHR (41_mapper_common.md R155, R158, R159) -/

/-- Settles O15: a CHR-ROM route answers in the 1 KiB slot its parameter names, of a CHR that is not empty. -/
theorem chrRomRead : Obligations.ChrRomRead := by
  intro s i x a haccess hx
  rw [exec_of_readAccess haccess]
  split
  case isTrue h =>
    obtain ⟨hp, -, hslot, hS⟩ := h
    obtain ⟨b, hread, hb⟩ := readSlot_chr (k := ⟨x.rp.toNat, by omega⟩) hx rfl hslot hS
    exact ⟨b, congrArg _ hread, hb⟩
  case isFalse h =>
    refine congrArg _ (readSlot_of_openBus ?_)
    rw [hx]
    by_cases hS : s.rom.chr.length = 0
    · exact chrSource_of_empty hS
    · exact chrSource_of_not_inSlot fun ⟨ha, hslot⟩ => h ⟨by omega, ha, hslot, hS⟩

/-- Settles O16, by the handlers of the two kinds and the store's read after a write. -/
theorem chrRamAccess : Obligations.ChrRamAccess := by
  refine ⟨fun s i x a haccess hx => ?read, fun s i x a v haccess hx => ?write⟩
  case read => rw [exec_of_readAccess haccess, readSlot_chrRam hx]
  case write =>
    rw [exec_of_writeAccess haccess, writeSlot_chrRam v hx]
    exact ⟨_, rfl, rfl, fun _ => State.chrRamByte_writeChrRam s⟩

/-! ### Register writes (41_mapper_common.md R156) -/

theorem exec_of_reachesMap {s : State} {i : Instr} {ca : Word} {v : Byte} (h : ReachesMap s i ca v) :
    exec i s = regWrite s.variant ca v s := by
  obtain ⟨x, a, haccess, hx, rfl⟩ := h
  rw [exec_of_writeAccess haccess, writeSlot_reg v hx]

/-- Settles O18: the register map performs the row its decoder names, and every row leaves the tables. -/
theorem registerWriteReachesItsRow : Obligations.RegisterWriteReachesItsRow := by
  intro s i ca v h
  rw [exec_of_reachesMap h]
  refine ⟨fun j hrow => ?row, fun hnone => ?none, ?frame⟩
  case row => rw [regWrite_eq, hrow]; rfl
  case none => rw [regWrite_eq, hnone]; rfl
  case frame =>
    obtain ⟨t, ht, heffect⟩ := regWrite_cases s.variant ca v s
    obtain ⟨hcpu, hgfx, -⟩ := regEffect_frame heffect
    exact ⟨t, ht, hcpu, hgfx⟩

/-! ### `INIT` (41_mapper_common.md R150) -/

section load

variable (s : State) (r : RomImage) (n : Nat)

@[simp] theorem load_prgSizeOverride : (s.load r n).prgSizeOverride = n := rfl

@[simp] theorem load_chrRamDraw : (s.load r n).chrRamDraw = s.chrRamDraw + 1 := by
  unfold State.load; dsimp only; split <;> rfl

@[simp] theorem load_draws : (s.load r n).draws = s.draws := by
  unfold State.load; dsimp only; split <;> rfl

@[simp] theorem load_result : (s.load r n).result = s.result := by
  unfold State.load; dsimp only; split <;> rfl

/-- After `INIT` no CHR-RAM byte is listed, so each reads as the new draw. -/
theorem load_chrRamByte (off : Nat) :
    (s.load r n).chrRamByte off = Config.chrRamInit (s.chrRamDraw + 1) off := by
  rw [State.chrRamByte, load_chrRamDraw]; rfl

/-- The two events of `INIT` in the order of its pseudocode. -/
theorem load_events : (s.load r n).events =
    s.events ++ (if (classify r.mapperId r.subMapperId).2 then [] else [.unknownMapper r.mapperId r.subMapperId]) ++
      (if s.irq.pending then [.irqLine false] else []) := by
  unfold State.load
  cases hfound : (classify r.mapperId r.subMapperId).2 <;> cases hline : s.irq.pending <;>
    simp [State.emit, Irq.reset, hfound, hline]

end load

theorem overridden_fst (r : RomImage) : (overridden r).1 = storedImage r (lookupOverride r.crc) := by
  unfold overridden storedImage
  cases lookupOverride r.crc with
  | none => rfl
  | some e =>
    simp only [overrideImage, ne_eq, ite_not]
    cases e.mir <;> cases e.region <;> rfl

theorem overridden_snd (r : RomImage) :
    (overridden r).2 = (lookupOverride r.crc).elim 0 OverrideEntry.prgSize := by
  unfold overridden
  cases lookupOverride r.crc <;> rfl

/-- The fixed-bank offset the statements write out is that of the model's windows (R241, R246, R251, R261). -/
theorem fixedOffsetOf_eq (m : Variant) (S : Nat) : fixedOffsetOf m S = fixedOffsetFor m S := by cases m <;> rfl

/-- Settles O23, field by field of `State.load`. -/
theorem initLoadsTheImage : Obligations.InitLoadsTheImage := by
  intro s
  refine ⟨_, rfl, overridden_fst _, ?prgSize, rfl, by simp, by simp, rfl, rfl, fixedOffsetOf_eq _ _, rfl, rfl,
    load_chrRamByte s _ _, load_chrRamDraw s _ _, load_events s _ _, load_cpuSlots s _ _, load_gfxSlots s _ _,
    load_trace s _ _, load_imageIn s _ _, load_draws s _ _, load_result s _ _⟩
  case prgSize =>
    rw [load_prgSizeOverride, overridden_snd]
    cases lookupOverride s.imageIn.crc <;> rfl

/-! ### `APPLY` (41_mapper_common.md R151, R164) -/

section install

variable {a : Nat}

theorem get_installAll_of_keeps {f : PrgWindow → Nat → SlotTable → SlotTable} {ws : List PrgWindow}
    (hf : ∀ w ∈ ws, ∀ i t, (f w i t).get a = t.get a) (i : Nat) (t : SlotTable) :
    (installAll f ws i t).get a = t.get a := by
  induction ws generalizing i t with
  | nil => rfl
  | cons w ws ih =>
    obtain ⟨hw, hws⟩ := List.forall_mem_cons.mp hf
    exact (ih hws (i + 1) (f w i t)).trans (hw i t)

theorem get_installFixed_below {w : PrgWindow} (ha : a < w.base) (i : Nat) (t : SlotTable) :
    (installFixed w i t).get a = t.get a := by
  unfold installFixed
  split
  · rw [SlotTable.get_modify, if_neg (by omega)]
  · rfl

theorem get_installSwap_below {w : PrgWindow} (ha : a < w.base) (i : Nat) (t : SlotTable) :
    (installSwap w i t).get a = t.get a := by
  unfold installSwap
  split
  · rfl
  · rw [SlotTable.get_modify, if_neg (by omega)]

/-- No window and no register lies below `0x8000`, so `APPLY` leaves the default slot there. -/
theorem get_cpuTableOf_low (m : Variant) (ha : a < 0x8000) : (cpuTableOf m).get a = Slot.default := by
  have hbelow : ∀ w ∈ prgWin m, a < w.base := fun w hw => ha.trans_le (prgWin_base_le m w hw)
  rw [cpuTableOf, installRegisters, SlotTable.get_modify, if_neg (by omega),
    get_installAll_of_keeps fun w hw => get_installSwap_below (hbelow w hw),
    get_installAll_of_keeps fun w hw => get_installFixed_below (hbelow w hw), SlotTable.get_nil]

theorem get_gfxTableOf_true (ha : a < 0x2000) :
    (gfxTableOf true).get a = (Slot.default.setRead .rChrRam ownerMapper 0).setWrite .wChrRam ownerMapper 0 := by
  rw [gfxTableOf, if_pos rfl, SlotTable.get_modify, if_pos ⟨Nat.zero_le a, (Nat.zero_add 0x2000).symm ▸ ha⟩,
    SlotTable.get_nil]

end install

/-- CHR-RAM is in use in the two variants that allow it, when the image declares any (41_mapper_common.md R160). -/
theorem useChrRam_iff (s : State) :
    s.useChrRam = true ↔ (s.variant = .v0 ∨ s.variant = .v1) ∧ 0 < s.rom.chrRamSize := by
  cases hv : s.variant <;> simp [State.useChrRam, chrRamOk, hv]

/-- Settles O24: below register space the CPU table keeps the default slot; the graphics table is one of two. -/
theorem applyInstallsTheTables : Obligations.ApplyInstallsTheTables := by
  intro s
  refine ⟨_, rfl, rfl, fun a ha => ?cpu, fun a ha => ?gfx⟩
  case cpu =>
    change (cpuTableOf s.variant).get a = _
    by_cases hlow : a < 0x8000
    · simp only [get_cpuTableOf_low _ hlow, appliedRead, if_pos hlow]; rfl
    · simp only [get_cpuTableOf _ (Nat.le_of_not_lt hlow) ha, if_neg hlow]; rfl
  case gfx =>
    change (gfxTableOf s.useChrRam).get a = _
    simp only [← useChrRam_iff]
    cases s.useChrRam with
    | true => exact get_gfxTableOf_true ha
    | false => exact get_gfxTableOf_false ha

/-- The tables after `APPLY`, by the class and the declared CHR-RAM size. -/
theorem apply_tables {s t : State} (h : exec .apply s = .next t) :
    t.cpuSlots = cpuTableOf s.variant ∧ t.gfxSlots = gfxTableOf s.useChrRam := by
  cases h; exact ⟨rfl, rfl⟩

theorem apply_pcbClass_rom {s t : State} (h : exec .apply s = .next t) : t.pcbClass = s.pcbClass ∧ t.rom = s.rom := by
  cases h; exact ⟨rfl, rfl⟩

theorem apply_tables_congr {s s' t t' : State} (ht : exec .apply s = .next t) (ht' : exec .apply s' = .next t')
    (hclass : s.pcbClass = s'.pcbClass) (hsize : s.rom.chrRamSize = s'.rom.chrRamSize) :
    t.cpuSlots = t'.cpuSlots ∧ t.gfxSlots = t'.gfxSlots := by
  obtain ⟨hcpu, hgfx⟩ := apply_tables ht
  obtain ⟨hcpu', hgfx'⟩ := apply_tables ht'
  simp only [hcpu, hcpu', hgfx, hgfx', State.useChrRam, State.variant, hclass, hsize, and_self]

/-- Settles O25: `APPLY` changes neither the class nor the image, so a second one installs the tables of the first. -/
theorem applyIsIdempotent : Obligations.ApplyIsIdempotent := by
  refine ⟨fun _ _ _ _ => apply_tables_congr, fun s t u ht hu => ?again⟩
  obtain ⟨hclass, hrom⟩ := apply_pcbClass_rom ht
  obtain ⟨hcpu, hgfx⟩ := apply_tables_congr hu ht hclass (by rw [hrom])
  exact ⟨hcpu, hgfx, fun i x a haccess => by simpa only [ReadAccess, hcpu, hgfx] using haccess⟩

/-! ### `TICK` (41_mapper_common.md R152, 43_irq_counter.md R203) -/

section tick

variable {s : State}

theorem setIrq_eq_withIrq (s : State) (q : Irq) : s.setIrq q = withIrq s q := by
  unfold State.setIrq withIrq
  by_cases h : s.irq.pending = q.pending
  · rw [if_pos h, if_pos h.symm, List.append_nil]
  · rw [if_neg h, if_neg (Ne.symm h)]

/-- With the line level unchanged no event is emitted (43_irq_counter.md R208). -/
theorem withIrq_of_pending_eq {q : Irq} (h : q.pending = s.irq.pending) : withIrq s q = { s with irq := q } := by
  rw [withIrq, if_pos h.symm, List.append_nil]

theorem exec_tick_of_irq (h : hasIrq s.variant = true) :
    exec .tick s = .next (withIrq s (s.irq.tick Config.irqDivN)) := by
  rw [exec, execTick, if_pos h, setIrq_eq_withIrq]

theorem exec_tick_of_noIrq (h : hasIrq s.variant = false) : exec .tick s = .next s := by
  simp only [exec, execTick, h, Bool.false_eq_true, if_false]

theorem irqCount_eq (q : Irq) : q.count =
    { q with
      counter := if q.counter = 0 then q.latch else q.counter - 1
      pending := if q.counter = 0 then true else q.pending } := by
  unfold Irq.count; split <;> rfl

/-- A tick of an enabled counter in cycle mode, or at the last phase of the divider, is one count. -/
theorem irqTick_eq_count {q : Irq} {N : Nat} (he : q.enabled = true) (h : q.cycleMode = true ∨ q.divPhase = N - 1) :
    q.tick N =
      { q with
        divPhase := if q.cycleMode then q.divPhase else 0
        counter := if q.counter = 0 then q.latch else q.counter - 1
        pending := if q.counter = 0 then true else q.pending } := by
  cases hc : q.cycleMode with
  | true => rw [Irq.tick_cycle q N he hc, irqCount_eq, if_pos rfl, hc]
  | false =>
    have hd : q.divPhase = N - 1 := h.resolve_left (by rw [hc]; exact Bool.false_ne_true)
    rw [Irq.tick_last q N he hc hd, irqCount_eq, if_neg Bool.false_ne_true, hc]

end tick

/-- Settles O46: the four branches of `Irq.tick`, of which only the count can move the line. -/
theorem tickCounts : Obligations.TickCounts := by
  intro s
  refine ⟨fun hv => exec_tick_of_noIrq (by obtain hv | hv := hv <;> rw [hv] <;> rfl), fun hv => ?counter⟩
  have hirq : hasIrq s.variant = true := by obtain hv | hv := hv <;> rw [hv] <;> rfl
  rw [exec_tick_of_irq hirq]
  refine ⟨fun he => ?disabled, fun he hc hd => ?phase, fun he h => ?count⟩
  case disabled => rw [Irq.tick_disabled _ _ he, withIrq_of_pending_eq rfl]
  case phase => rw [Irq.tick_phase _ _ he hc hd]; exact congrArg _ (withIrq_of_pending_eq rfl)
  case count => rw [irqTick_eq_count he h]

end Sys2Proof.Proofs.MapperCommon

end

section

namespace Sys2Proof.Proofs.Swizzle

open Sys2Proof Sys2Proof.Machine Sys2Proof.Statements

/-! ### Where a swizzle takes the bits of an address from (42_swizzle.md R181 to R186) -/

/-- A swizzle is masks and shifts by numerals, so each of its 16 bits computes to one bit of the address. -/
theorem getLsbD_swizzle (w : Wiring) (a : Word) {n : Nat} (hn : n < 16) :
    (swizzle w a).getLsbD n = a.getLsbD (swizzleBit w n) := by
  cases w
  case a0a1 => rfl
  all_goals
    simp only [swizzle, swizzleA1A0, swizzleA1A2, swizzleA2A3, swizzleA3A2, swizzleA6A7]
    interval_cases n <;> simp [swizzleBit]

theorem swizzleBit_lt (w : Wiring) {n : Nat} (hn : n < 16) : swizzleBit w n < 16 := by
  cases w <;> grind [swizzleBit]

theorem swizzleBit_swizzleBit {w : Wiring} (hw : w ≠ .a1a2) (n : Nat) : swizzleBit w (swizzleBit w n) = n := by
  cases w
  case a1a2 => exact absurd rfl hw
  all_goals grind [swizzleBit]

theorem swizzleBit_a1a2_cube (n : Nat) :
    swizzleBit .a1a2 (swizzleBit .a1a2 (swizzleBit .a1a2 n)) = n := by
  grind [swizzleBit]

/-- No bit above bit 7 moves (42_swizzle.md R187). -/
theorem swizzleBit_of_ge_eight (w : Wiring) {n : Nat} (hn : 8 ≤ n) : swizzleBit w n = n := by
  cases w <;> grind [swizzleBit]

theorem swizzleBit_zero (w : Wiring) : swizzleBit w 0 = (selectorLines w).1 := by cases w <;> rfl

theorem swizzleBit_one (w : Wiring) : swizzleBit w 1 = (selectorLines w).2 := by cases w <;> rfl

/-! ### Swizzles as maps of addresses: each follows from the map of bit places -/

theorem swizzle_involutive {w : Wiring} (hw : w ≠ .a1a2) : Function.Involutive (swizzle w) := by
  intro a
  refine BitVec.eq_of_getLsbD_eq fun n hn => ?_
  rw [getLsbD_swizzle w _ hn, getLsbD_swizzle w a (swizzleBit_lt w hn), swizzleBit_swizzleBit hw]

theorem swizzle_a1a2_cube (a : Word) : swizzle .a1a2 (swizzle .a1a2 (swizzle .a1a2 a)) = a := by
  refine BitVec.eq_of_getLsbD_eq fun n hn => ?_
  have hn' := swizzleBit_lt .a1a2 hn
  rw [getLsbD_swizzle _ _ hn, getLsbD_swizzle _ _ hn', getLsbD_swizzle _ _ (swizzleBit_lt _ hn'),
    swizzleBit_a1a2_cube]

/-- The inverse of a swizzle is the swizzle itself, or for `A1/A2` the swizzle applied twice. -/
theorem swizzle_bijective (w : Wiring) : Function.Bijective (swizzle w) := by
  by_cases hw : w = .a1a2
  · subst hw
    exact Function.bijective_iff_has_inverse.mpr
      ⟨fun a => swizzle .a1a2 (swizzle .a1a2 a), swizzle_a1a2_cube, swizzle_a1a2_cube⟩
  · exact (swizzle_involutive hw).bijective

theorem regSel_swizzle (w : Wiring) (a : Word) :
    regSel (swizzle w a) =
      BitVec.ofBool (a.getLsbD (selectorLines w).2) ++ BitVec.ofBool (a.getLsbD (selectorLines w).1) := by
  refine BitVec.eq_of_getLsbD_eq fun n hn => ?_
  rw [regSel, BitVec.getLsbD_extractLsb', Nat.zero_add, getLsbD_swizzle w a (by omega), BitVec.getLsbD_append]
  obtain rfl | rfl : n = 0 ∨ n = 1 := by omega
  · simp [swizzleBit_zero]
  · simp [swizzleBit_one]

/-- Every field of an address above bit 7 is kept (42_swizzle.md R187). -/
theorem extractLsb'_swizzle (w : Wiring) (a : Word) {start len : Nat} (hlow : 8 ≤ start) (hhigh : start + len ≤ 16) :
    (swizzle w a).extractLsb' start len = a.extractLsb' start len := by
  refine BitVec.eq_of_getLsbD_eq fun n hn => ?_
  rw [BitVec.getLsbD_extractLsb', BitVec.getLsbD_extractLsb', getLsbD_swizzle w a (by omega),
    swizzleBit_of_ge_eight w (by omega)]

/-- V0 and V1 have no selector: the classes of these variants have the identity wiring (42_swizzle.md R181). -/
theorem wiringOf_of_noSelector {c : PcbClass} (hc : variantOf c = .v0 ∨ variantOf c = .v1) : wiringOf c = .a0a1 := by
  cases c
  case fixswap | one32k => rfl
  all_goals simp [variantOf] at hc

/-- Settles O32: each clause on addresses is its clause on bit places. No map of bit places with A1 to bit 0 and A2 to
bit 1 is an involution, since it takes place 0 to 2 in two steps. -/
theorem swizzleBits : Obligations.SwizzleBits := by
  refine ⟨fun w a n hn => getLsbD_swizzle w a hn, fun w a hw => swizzle_involutive hw a, swizzle_a1a2_cube,
    ⟨1, by decide⟩, fun f h0 h1 => ⟨0, ?_⟩, fun _ hv => wiringOf_of_noSelector hv⟩
  rw [h0, h1]
  decide

/-- Settles O33: a preimage of an address stands in the address's own window, because a swizzle keeps bits 15 to 12. -/
theorem swizzlePermutesWithinTheWindow : Obligations.SwizzlePermutesWithinTheWindow := by
  intro w
  obtain ⟨hinjective, hsurjective⟩ := swizzle_bijective w
  refine ⟨regSel_swizzle w, fun a => extractLsb'_swizzle w a (by omega) (by omega), fun a b h => hinjective h,
    fun b => ?_⟩
  obtain ⟨a, rfl⟩ := hsurjective b
  exact ⟨a, rfl, (extractLsb'_swizzle w a (by omega) (by omega)).symm⟩

end Sys2Proof.Proofs.Swizzle

end

section

namespace Sys2Proof.Proofs.IrqCounter

open Sys2Proof Sys2Proof.Machine Sys2Proof.Statements
open Sys2Proof.Proofs.Invariants (regWrite_eq writeSlot_registerFile readSlot_sameRegisterFile irqDivN_pos)
open Sys2Proof.Proofs.Encoding (decodeReg_row)
open Sys2Proof.Proofs.BusDispatch (exec_of_writeAccess)
open Sys2Proof.Proofs.MapperCommon (exec_tick_of_irq exec_tick_of_noIrq)

/-! ### Where the line moves (43_irq_counter.md R205) -/

section line

variable {i : Instr} {s t : State}

/-- A count raises the line only from 0. -/
theorem irqCount_rises {q : Irq} (hlow : q.pending = false) (hhigh : q.count.pending = true) : q.counter = 0 := by
  by_contra hc
  rw [Irq.count_pos q hc] at hhigh
  cases hlow.symm.trans hhigh

/-- A tick raises the line only by a count, and that from 0. -/
theorem irqTick_rises {q : Irq} {N : Nat} (hlow : q.pending = false) (hhigh : (q.tick N).pending = true) :
    q.enabled = true ∧ q.counter = 0 ∧ (q.cycleMode = true ∨ q.divPhase = N - 1) := by
  cases he : q.enabled with
  | false => rw [Irq.tick_disabled q N he] at hhigh; cases hlow.symm.trans hhigh
  | true =>
    cases hc : q.cycleMode with
    | true => rw [Irq.tick_cycle q N he hc] at hhigh; exact ⟨rfl, irqCount_rises hlow hhigh, .inl rfl⟩
    | false =>
      by_cases hd : q.divPhase = N - 1
      · rw [Irq.tick_last q N he hc hd] at hhigh
        exact ⟨rfl, irqCount_rises (q := { q with divPhase := 0 }) hlow hhigh, .inr hd⟩
      · rw [Irq.tick_phase q N he hc hd] at hhigh; cases hlow.symm.trans hhigh

/-- A control write lowers the line only by a reload. -/
theorem irqSetControl_falls {q : Irq} {e c : Bool} (hhigh : q.pending = true)
    (hlow : (q.setControl e c).pending = false) : e = true := by
  cases e with
  | true => rfl
  | false => cases hhigh.symm.trans hlow

/-- No register write raises the line. -/
theorem regEffect_irqLine (he : RegEffect s t) (h : t.irqLine = true) : s.irqLine = true := by
  cases he with
  | control e c => exact Irq.setControl_pending _ e c h
  | ack => cases h
  | _ => exact h

/-- Only a `TICK` raises the line. -/
theorem line_rises (h : exec i s = .next t) (hlow : s.irqLine = false) (hhigh : t.irqLine = true) :
    i = .tick ∧ s.irq.enabled = true ∧ s.irq.counter = 0 ∧
      (s.irq.cycleMode = true ∨ s.irq.divPhase = Config.irqDivN - 1) := by
  have hnot : s.irqLine ≠ true := by simp [hlow]
  cases exec_cases h with
  | count htick _ => exact ⟨htick, irqTick_rises hlow hhigh⟩
  | register he => exact absurd (regEffect_irqLine he hhigh) hnot
  | load _ => cases hhigh
  | _ => exact absurd hhigh hnot

/-- A row lowers the line only by an acknowledge or by a reloading control write. -/
theorem row_line_falls (hf : i.format ≠ .cmd) (h : exec i s = .next t) (hhigh : s.irqLine = true)
    (hlow : t.irqLine = false) :
    ∃ ca v, i = .v2IrqAck ca v ∨ i = .v3IrqAck ca v ∨
      (v.getLsbD 1 = true ∧ (i = .v2IrqControl ca v ∨ i = .v3IrqControl ca v)) := by
  cases i
  case v2IrqAck ca v => exact ⟨ca, v, .inl rfl⟩
  case v3IrqAck ca v => exact ⟨ca, v, .inr (.inl rfl)⟩
  case v2IrqControl ca v => cases h; exact ⟨ca, v, .inr (.inr ⟨irqSetControl_falls hhigh hlow, .inl rfl⟩)⟩
  case v3IrqControl ca v => cases h; exact ⟨ca, v, .inr (.inr ⟨irqSetControl_falls hhigh hlow, .inr rfl⟩)⟩
  case rd | wr | grd | gwr | setrf | setwf | gsetrf | gsetwf | init | apply | tick | classify | lookup =>
    exact absurd rfl hf
  all_goals cases h; cases hhigh.symm.trans hlow

/-- A bus write leaves the counter or performs a row. -/
theorem write_irq_same_or_performs {x : Slot} {a : Word} {v : Byte} (haccess : WriteAccess s i x a v)
    (h : exec i s = .next t) : t.irq = s.irq ∨ ∃ j, Performs s i j ∧ j.format ≠ .cmd ∧ exec j s = .next t := by
  rw [exec_of_writeAccess haccess] at h
  obtain ⟨hk, hreg⟩ | ⟨-, rfl⟩ | hsame := writeSlot_registerFile h
  · rw [regWrite_eq] at hreg
    cases hrow : decodeReg s.variant (swizzle s.wiring a) v with
    | none => rw [hrow] at hreg; cases hreg; exact .inl rfl
    | some j =>
      rw [hrow] at hreg
      obtain ⟨hf, -⟩ := decodeReg_row hrow
      exact .inr ⟨j, .inr ⟨x, a, v, haccess, hk, hrow⟩, by simp [hf], hreg⟩
  · exact .inl rfl
  · exact .inl hsame.irq

/-- An operation other than `INIT` and `TICK` leaves the counter or performs a row. -/
theorem irq_same_or_performs (hinit : i ≠ .init) (htick : i ≠ .tick) (h : exec i s = .next t) :
    t.irq = s.irq ∨ ∃ j, Performs s i j ∧ j.format ≠ .cmd ∧ exec j s = .next t := by
  cases i
  case init => exact absurd rfl hinit
  case tick => exact absurd rfl htick
  case wr a v => exact write_irq_same_or_performs (.inl ⟨rfl, rfl⟩) h
  case gwr g v => exact write_irq_same_or_performs (.inr ⟨g, rfl, rfl, rfl⟩) h
  case rd a => cases h; exact .inl (readSlot_sameRegisterFile _ _ _).irq
  case grd g => cases h; exact .inl (readSlot_sameRegisterFile _ _ _).irq
  case setrf | setwf | gsetrf | gsetwf | apply | classify | lookup => cases h; exact .inl rfl
  all_goals exact .inr ⟨_, .inl rfl, by simp [Instr.format], h⟩

/-- A `TICK` never lowers the line. -/
theorem tick_irqLine (h : exec .tick s = .next t) (hhigh : s.irqLine = true) : t.irqLine = true := by
  cases hirq : hasIrq s.variant with
  | true => rw [exec_tick_of_irq hirq] at h; cases h; exact Irq.tick_pending _ _ hhigh
  | false => rw [exec_tick_of_noIrq hirq] at h; cases h; exact hhigh

/-- Apart from `INIT`, what lowers the line performs a row that does. -/
theorem line_falls (h : exec i s = .next t) (hhigh : s.irqLine = true) (hlow : t.irqLine = false) :
    i = .init ∨ ∃ ca v, Performs s i (.v2IrqAck ca v) ∨ Performs s i (.v3IrqAck ca v) ∨
      (v.getLsbD 1 = true ∧ (Performs s i (.v2IrqControl ca v) ∨ Performs s i (.v3IrqControl ca v))) := by
  by_cases hinit : i = .init
  · exact .inl hinit
  have htick : i ≠ .tick := by rintro rfl; cases hlow.symm.trans (tick_irqLine h hhigh)
  obtain hsame | ⟨j, hj, hf, hexec⟩ := irq_same_or_performs hinit htick h
  · cases hhigh.symm.trans ((congrArg Irq.pending hsame).symm.trans hlow)
  · obtain ⟨ca, v, rfl | rfl | ⟨he, rfl | rfl⟩⟩ := row_line_falls hf hexec hhigh hlow
    · exact .inr ⟨ca, v, .inl hj⟩
    · exact .inr ⟨ca, v, .inr (.inl hj)⟩
    · exact .inr ⟨ca, v, .inr (.inr ⟨he, .inl hj⟩)⟩
    · exact .inr ⟨ca, v, .inr (.inr ⟨he, .inr hj⟩)⟩

end line

/-- Settles O47: by the counter's strobes, and by the rows a bus write can reach. -/
theorem lineMovesOnlyByRule : Obligations.LineMovesOnlyByRule := fun _ _ _ h =>
  ⟨rfl, line_rises h, line_falls h⟩

/-! ### Counts and ticks in a row -/

section cadence

variable {q : Irq} {N : Nat}

/-- As many counts as the counter holds only lower it. -/
theorem irqCount_iterate {k : Nat} (hk : k ≤ q.counter.toNat) :
    Irq.count^[k] q = { q with counter := q.counter - BitVec.ofNat 8 k } := by
  induction k with
  | zero => simp
  | succ k ih =>
    have hpos : q.counter - BitVec.ofNat 8 k ≠ 0 := by bv_omega
    rw [Function.iterate_succ_apply', ih (by omega), Irq.count_pos _ hpos]
    congr 1
    bv_omega

/-- The counter underflows at the count after the one that reaches 0. -/
theorem irqCount_iterate_underflow :
    Irq.count^[q.counter.toNat + 1] q = { q with counter := q.latch, pending := true } := by
  rw [Function.iterate_succ_apply', irqCount_iterate le_rfl, Irq.count_zero _ (by simp)]

/-- In cycle mode every tick is a count (43_irq_counter.md R203). -/
theorem irqTick_iterate_cycle (he : q.enabled = true) (hc : q.cycleMode = true) (k : Nat) :
    (Irq.tick N)^[k] q = Irq.count^[k] q := by
  induction k generalizing q with
  | zero => rfl
  | succ k ih =>
    rw [Function.iterate_succ_apply, Irq.tick_cycle q N he hc, Function.iterate_succ_apply]
    exact ih (by simpa using he) (by simpa using hc)

/-- In scanline mode the ticks below the last phase move the divider alone. -/
theorem irqTick_iterate_phase (he : q.enabled = true) (hc : q.cycleMode = false) (hd : q.divPhase = 0) {k : Nat}
    (hk : k < N) : (Irq.tick N)^[k] q = { q with divPhase := k } := by
  induction k with
  | zero => rw [Function.iterate_zero_apply, ← hd]
  | succ k ih =>
    rw [Function.iterate_succ_apply', ih (by omega)]
    exact Irq.tick_phase _ N he hc (by dsimp only; omega)

/-- In scanline mode `N` ticks from phase 0 are one count (43_irq_counter.md R203). -/
theorem irqTick_iterate_divider (he : q.enabled = true) (hc : q.cycleMode = false) (hd : q.divPhase = 0)
    (hN : 0 < N) : (Irq.tick N)^[N] q = q.count := by
  obtain ⟨n, rfl⟩ := Nat.exists_eq_add_one.mpr hN
  rw [Function.iterate_succ_apply', irqTick_iterate_phase he hc hd (by omega),
    Irq.tick_last { q with divPhase := n } _ he hc rfl, ← hd]

/-- In scanline mode every `N` ticks from phase 0 are one count. -/
theorem irqTick_iterate_scanline (he : q.enabled = true) (hc : q.cycleMode = false) (hd : q.divPhase = 0)
    (hN : 0 < N) (m : Nat) : (Irq.tick N)^[m * N] q = Irq.count^[m] q := by
  induction m generalizing q with
  | zero => rw [Nat.zero_mul]; rfl
  | succ m ih =>
    rw [Nat.succ_mul, Function.iterate_add_apply, irqTick_iterate_divider he hc hd hN, Function.iterate_succ_apply]
    exact ih (by simpa using he) (by simpa using hc) (by simpa using hd)

/-- Before the underflow the line does not move: `k` ticks are `k / N` whole counts and `k % N` phases. -/
theorem irqTick_iterate_scanline_pending (he : q.enabled = true) (hc : q.cycleMode = false) (hd : q.divPhase = 0)
    {k : Nat} (hk : k < (q.counter.toNat + 1) * N) : ((Irq.tick N)^[k] q).pending = q.pending := by
  have hN : 0 < N := Nat.pos_of_mul_pos_left (Nat.zero_lt_of_lt hk)
  have hcounts : k / N ≤ q.counter.toNat := Nat.lt_succ_iff.mp ((Nat.div_lt_iff_lt_mul hN).mpr hk)
  rw [← Nat.mod_add_div' k N, Function.iterate_add_apply, irqTick_iterate_scanline he hc hd hN,
    irqCount_iterate hcounts,
    irqTick_iterate_phase (q := { q with counter := q.counter - BitVec.ofNat 8 (k / N) }) he hc hd (Nat.mod_lt k hN)]

end cadence

section ticks

variable {s : State}

theorem hasIrq_of_v2_or_v3 {m : Variant} (hm : m = .v2 ∨ m = .v3) : hasIrq m = true := by
  obtain rfl | rfl := hm <;> rfl

/-- In a variant with a counter, `TICK`s in a row tick it. -/
theorem ticks_irq (hirq : hasIrq s.variant = true) (n : Nat) :
    ∃ u, ticks n s = .next u ∧ u.irq = (Irq.tick Config.irqDivN)^[n] s.irq ∧ u.variant = s.variant := by
  induction n generalizing s with
  | zero => exact ⟨s, rfl, rfl, rfl⟩
  | succ n ih =>
    obtain ⟨u, hu, huirq, hvariant⟩ := ih (s := withIrq s (s.irq.tick Config.irqDivN)) hirq
    exact ⟨u, by rw [ticks, exec_tick_of_irq hirq]; exact hu, huirq, hvariant⟩

theorem ticks_cycle_counts (hirq : hasIrq s.variant = true) (he : s.irq.enabled = true) (hc : s.irq.cycleMode = true)
    {k : Nat} (hk : k ≤ s.irq.counter.toNat) :
    ∃ u, ticks k s = .next u ∧ u.irq = { s.irq with counter := s.irq.counter - BitVec.ofNat 8 k } := by
  obtain ⟨u, hu, huirq, -⟩ := ticks_irq hirq k
  exact ⟨u, hu, by rw [huirq, irqTick_iterate_cycle he hc, irqCount_iterate hk]⟩

theorem ticks_cycle_underflow (hirq : hasIrq s.variant = true) (he : s.irq.enabled = true)
    (hc : s.irq.cycleMode = true) :
    ∃ u, ticks (s.irq.counter.toNat + 1) s = .next u ∧
      u.irq = { s.irq with counter := s.irq.latch, pending := true } ∧ u.variant = s.variant := by
  obtain ⟨u, hu, huirq, hvariant⟩ := ticks_irq hirq (s.irq.counter.toNat + 1)
  exact ⟨u, hu, by rw [huirq, irqTick_iterate_cycle he hc, irqCount_iterate_underflow], hvariant⟩

theorem ticks_scanline_pending (hirq : hasIrq s.variant = true) (he : s.irq.enabled = true) (hc : s.irq.cycleMode = false)
    (hd : s.irq.divPhase = 0) {k : Nat} (hk : k < (s.irq.counter.toNat + 1) * Config.irqDivN) :
    ∃ u, ticks k s = .next u ∧ u.irq.pending = s.irq.pending := by
  obtain ⟨u, hu, huirq, -⟩ := ticks_irq hirq k
  exact ⟨u, hu, by rw [huirq, irqTick_iterate_scanline_pending he hc hd hk]⟩

theorem ticks_scanline_underflow (hirq : hasIrq s.variant = true) (he : s.irq.enabled = true)
    (hc : s.irq.cycleMode = false) (hd : s.irq.divPhase = 0) :
    ∃ u, ticks ((s.irq.counter.toNat + 1) * Config.irqDivN) s = .next u ∧
      u.irq = { s.irq with counter := s.irq.latch, pending := true } ∧ u.variant = s.variant := by
  obtain ⟨u, hu, huirq, hvariant⟩ := ticks_irq hirq ((s.irq.counter.toNat + 1) * Config.irqDivN)
  exact ⟨u, hu, by rw [huirq, irqTick_iterate_scanline he hc hd irqDivN_pos, irqCount_iterate_underflow], hvariant⟩

/-- A control write with `E = 1` reloads the counter (43_irq_counter.md R202). -/
theorem exec_reload {i : Instr} {ca : Word} {v : Byte}
    (hi : (s.variant = .v2 ∧ i = .v2IrqControl ca v) ∨ (s.variant = .v3 ∧ i = .v3IrqControl ca v))
    (he : v.getLsbD 1 = true) :
    ∃ t, exec i s = .next t ∧ hasIrq t.variant = true ∧
      t.irq.enabled = true ∧ t.irq.cycleMode = v.getLsbD 2 ∧ t.irq.counter = s.irq.latch ∧ t.irqLine = false ∧
      t.irq.divPhase = 0 := by
  have hirq : hasIrq s.variant = true := hasIrq_of_v2_or_v3 (hi.imp And.left And.left)
  refine ⟨s.setIrq (s.irq.setControl true (v.getLsbD 2)), ?exec, hirq, rfl, rfl, rfl, rfl, rfl⟩
  case exec => rw [← he]; obtain ⟨-, rfl⟩ | ⟨-, rfl⟩ := hi <;> rfl

theorem exec_ack {i : Instr} {ca : Word} {v : Byte} (hi : i = .v2IrqAck ca v ∨ i = .v3IrqAck ca v) :
    exec i s = .next (s.setIrq s.irq.ack) := by
  obtain rfl | rfl := hi <;> rfl

end ticks

/-- Settles O48: in cycle mode `k` ticks are `k` counts. -/
theorem cycleModeCadence : Obligations.CycleModeCadence := by
  refine ⟨fun s ca v i hi he hc => ?reload, fun s hv he hc => ⟨fun k hk => ?before, ?underflow⟩⟩
  case reload =>
    obtain ⟨t, ht, hirq, hen, hcycle, hcounter, hline, -⟩ := exec_reload hi he
    rw [hc] at hcycle
    rw [← hcounter]
    refine ⟨t, ht, fun k hk => ?low, ?high⟩
    case low =>
      obtain ⟨u, hu, huirq⟩ := ticks_cycle_counts hirq hen hcycle hk
      exact ⟨u, hu, (congrArg Irq.pending huirq).trans hline⟩
    case high =>
      obtain ⟨u, hu, huirq, -⟩ := ticks_cycle_underflow hirq hen hcycle
      exact ⟨u, hu, congrArg Irq.pending huirq⟩
  case before =>
    obtain ⟨u, hu, huirq⟩ := ticks_cycle_counts (hasIrq_of_v2_or_v3 hv) he hc hk
    refine ⟨u, hu, ?_, by rw [huirq], fun i ca v hi => ⟨_, exec_ack hi, rfl⟩⟩
    rw [huirq]
    bv_omega
  case underflow => exact ticks_cycle_underflow (hasIrq_of_v2_or_v3 hv) he hc

/-- Settles O49: in scanline mode `N` ticks from phase 0 are one count, and the ticks between counts leave the line. -/
theorem scanlineModeCadence : Obligations.ScanlineModeCadence := by
  refine ⟨fun s ca v i hi he hc => ?reload, fun s hv he hc hd => ⟨fun k hk => ?before, ?underflow⟩⟩
  case reload =>
    obtain ⟨t, ht, hirq, hen, hscanline, hcounter, hline, hphase⟩ := exec_reload hi he
    rw [hc] at hscanline
    rw [← hcounter]
    refine ⟨t, ht, fun k hk => ?low, ?high⟩
    case low =>
      obtain ⟨u, hu, hpending⟩ := ticks_scanline_pending hirq hen hscanline hphase hk
      exact ⟨u, hu, hpending.trans hline⟩
    case high =>
      obtain ⟨u, hu, huirq, -⟩ := ticks_scanline_underflow hirq hen hscanline hphase
      exact ⟨u, hu, congrArg Irq.pending huirq⟩
  case before => exact ticks_scanline_pending (hasIrq_of_v2_or_v3 hv) he hc hd hk
  case underflow => exact ticks_scanline_underflow (hasIrq_of_v2_or_v3 hv) he hc hd

end Sys2Proof.Proofs.IrqCounter

end

section

namespace Sys2Proof.Proofs.PcbOverride

open Sys2Proof Sys2Proof.Machine Sys2Proof.Statements Sys2Proof.Proofs.Invariants Sys2Proof.Proofs.MapperCommon

/-! ### The search of the classification table (44_pcb_and_override.md R221, R222) -/

section classification

variable {pre : List PcbRow} {m : Word} {sub : Byte}

theorem classifyIn_append_of_forall_not (h : ∀ q ∈ pre, ¬ (q.mapperId = m ∧ q.subMapperId = sub))
    (t : List PcbRow) : classifyIn (pre ++ t) m sub = classifyIn t m sub := by
  induction pre with
  | nil => rfl
  | cons q pre ih =>
    obtain ⟨hq, hpre⟩ := List.forall_mem_cons.mp h
    rw [List.cons_append, classifyIn, if_neg hq, ih hpre]

theorem classifyIn_of_first (h : ∀ q ∈ pre, ¬ (q.mapperId = m ∧ q.subMapperId = sub)) {r : PcbRow}
    (hm : r.mapperId = m) (hsub : r.subMapperId = sub) (post : List PcbRow) :
    classifyIn (pre ++ r :: post) m sub = (r.pcbClass, true) := by
  rw [classifyIn_append_of_forall_not h, classifyIn, if_pos ⟨hm, hsub⟩]

theorem classifyIn_of_forall_not (h : ∀ q ∈ pre, ¬ (q.mapperId = m ∧ q.subMapperId = sub)) :
    classifyIn pre m sub = (pcbDefault, false) := by
  rw [← pre.append_nil, classifyIn_append_of_forall_not h, classifyIn]

end classification

/-- The equation of `CLASSIFY`: a pure query. -/
theorem exec_classify (s : State) (m : Word) (sub : Byte) :
    exec (.classify m sub) s = .next { s with result := .pcbClass (classify m sub).1 } := rfl

/-- Settles O29: the rows before the first match are passed over, and what is left is that row or nothing. -/
theorem classifyAnswersTheFirstRow : Obligations.ClassifyAnswersTheFirstRow := by
  refine fun s m sub => ⟨fun pre r post htable hpre hm hsub => ?first, fun hnone => ?default⟩
  case first => rw [exec_classify, classify, htable, classifyIn_of_first hpre hm hsub]
  case default => rw [exec_classify, classify, classifyIn_of_forall_not hnone, pcbDefault]

/-- Settles O31, by evaluating the search at the two pairs of ids. -/
theorem neighbouringMappersDiffer : Obligations.NeighbouringMappersDiffer := by
  intro s
  have hA0A1 : classify 23 1 = (.vrc24A0A1, true) := by decide
  have hA1A0 : classify 25 3 = (.vrc24A1A0, true) := by decide
  rw [exec_classify, exec_classify, hA0A1, hA1A0]
  exact ⟨rfl, rfl, rfl, rfl⟩

/-! ### The search of the override table (44_pcb_and_override.md R225, R227) -/

section lookups

variable {pre : List OverrideEntry} {c : Checksum}

theorem lookupIn_append_of_forall_ne (h : ∀ q ∈ pre, q.checksum ≠ c) (t : List OverrideEntry) :
    lookupIn (pre ++ t) c = lookupIn t c := by
  induction pre with
  | nil => rfl
  | cons q pre ih =>
    obtain ⟨hq, hpre⟩ := List.forall_mem_cons.mp h
    rw [List.cons_append, lookupIn, if_neg hq, ih hpre]

theorem lookupIn_of_first (h : ∀ q ∈ pre, q.checksum ≠ c) {e : OverrideEntry} (he : e.checksum = c)
    (post : List OverrideEntry) : lookupIn (pre ++ e :: post) c = some e := by
  rw [lookupIn_append_of_forall_ne h, lookupIn, if_pos he]

theorem lookupIn_of_forall_ne (h : ∀ q ∈ pre, q.checksum ≠ c) : lookupIn pre c = none := by
  rw [← pre.append_nil, lookupIn_append_of_forall_ne h, lookupIn]

end lookups

/-- The equation of `LOOKUP`: a pure query. -/
theorem exec_lookup (s : State) (c : Checksum) :
    exec (.lookup c) s = .next { s with result := .entry (lookupIn overrideTable c) } := rfl

/-- Settles O30: the entries before the first match are passed over, and what is left is that entry or nothing. -/
theorem lookupAnswersTheFirstEntry : Obligations.LookupAnswersTheFirstEntry := by
  refine ⟨fun t pre post e htable hpre => ?first, fun t c hnone => lookupIn_of_forall_ne hnone, exec_lookup⟩
  case first => rw [htable, lookupIn_of_first hpre rfl]

/-! ### What the two tables make of a presented image (41_mapper_common.md R150) -/

/-- The equation of `INIT`: the image it loads is the presented one with the override entry's fields put in. -/
theorem exec_init (s : State) :
    exec .init s =
      .next (s.load (storedImage s.imageIn (lookupOverride s.imageIn.crc)) (overridden s.imageIn).2) := by
  rw [← overridden_fst]; rfl

/-- `INIT` puts `mirror` to no override, so the output is the declared mode (46_mirroring_selector.md R280). -/
theorem load_ntMode (s : State) (r : RomImage) (n : Nat) : (s.load r n).ntMode = r.declMirror := rfl

/-- The one entry of the default table: vertical, and no mapper id of its own (44_pcb_and_override.md R226). -/
theorem lookupOverride_listed :
    lookupOverride 0xB00ABE1C =
      some { checksum := 0xB00ABE1C, mir := some .vertical, region := none, mapper := 0xFFFF, prgSize := 0 } :=
  lookupIn_of_first (pre := []) (List.forall_mem_nil _) rfl []

/-- Settles O27: the entry of the checksum declares vertical and leaves the mapper id. -/
theorem overrideBeatsTheHeader : Obligations.OverrideBeatsTheHeader := by
  refine fun s hcrc => ⟨_, exec_init s, ?mode, ?mapper⟩
  case mode => rw [load_ntMode, hcrc, lookupOverride_listed, storedImage]
  case mapper => rw [load_rom, hcrc, lookupOverride_listed, storedImage, if_neg (not_not_intro rfl)]

/-- Settles O28: the search finds no row, so the class is the default and the event is emitted; the line is low, so
there is no edge. -/
theorem unknownMapperFallsBack : Obligations.UnknownMapperFallsBack := by
  intro s hentry hline hrows
  have hfound : classify s.imageIn.mapperId s.imageIn.subMapperId = (.fixswap, false) :=
    classifyIn_of_forall_not hrows
  have hinit := exec_init s
  rw [hentry, storedImage] at hinit
  have hclass : (s.load s.imageIn (overridden s.imageIn).2).pcbClass = .fixswap := by rw [load_pcbClass, hfound]
  refine ⟨_, hinit, hclass, ?variant, ?event⟩
  case variant => rw [State.variant, hclass, variantOf]
  case event => simp [load_events, hfound, hline]

end Sys2Proof.Proofs.PcbOverride

end

section

namespace Sys2Proof.Proofs.MapperVariants

open Sys2Proof Sys2Proof.Machine Sys2Proof.Statements
open Sys2Proof.Proofs.Reads (regGroup_toNat regSel_toNat regSel_mem truncate_and_three)
open Sys2Proof.Proofs.Encoding (decodeReg_of_row rowMatches_group_iff rowMatches_group_selHigh_iff
  rowMatches_group_sel_iff)
open Sys2Proof.Proofs.MapperCommon (exec_of_reachesMap registerWriteReachesItsRow setIrq_eq_withIrq
  withIrq_of_pending_eq)

/-! ### The fields of the data byte (30_encoding.md R101, R102) -/

section fields

variable (s : State) (v : Byte)

theorem mirrorOfField_eq_fieldMode (f : BitVec 2) : mirrorOfField f = fieldMode f.toNat := by revert f; decide

theorem toNat_and_three : (v &&& 3).toNat = (v.extractLsb' 0 2).toNat := by
  rw [BitVec.toNat_and, BitVec.extractLsb'_toNat, Nat.shiftRight_zero]
  exact Nat.and_two_pow_sub_one_eq_mod _ 2

theorem mirrorOfField_low : mirrorOfField (v.extractLsb' 0 2) = fieldMode (v &&& 3).toNat := by
  rw [mirrorOfField_eq_fieldMode, toNat_and_three]

theorem mirrorOfField_high : mirrorOfField (v.extractLsb' 2 2) = fieldMode ((v >>> 2) &&& 3).toNat := by
  rw [mirrorOfField_eq_fieldMode, toNat_and_three]
  simp

theorem setControl_eq_afterControl (q : Irq) :
    q.setControl (irqCtlEnable v) (irqCtlCycle v) = afterControl q v := by
  unfold Irq.setControl afterControl irqCtlEnable irqCtlCycle
  cases v.getLsbD 1 <;> rfl

/-- A latch write leaves the line, so it emits nothing (43_irq_counter.md R201). -/
theorem setIrq_setLatch (b : Byte) :
    s.setIrq (s.irq.setLatch b) = { s with irq := { s.irq with latch := b } } := by
  rw [setIrq_eq_withIrq]
  exact withIrq_of_pending_eq rfl

theorem setIrq_setControl :
    s.setIrq (s.irq.setControl (irqCtlEnable v) (irqCtlCycle v)) = withIrq s (afterControl s.irq v) := by
  rw [setIrq_eq_withIrq, setControl_eq_afterControl]

end fields

/-! ### The rows by themselves -/

section rows

variable (s : State) (ca : Word) (v : Byte)

theorem exec_v2Mirror : exec (.v2Mirror ca v) s = .next (mirrored s (fieldMode (v &&& 3).toNat)) := by
  rw [← mirrorOfField_low]; rfl

theorem exec_v3BankingControl : exec (.v3BankingControl ca v) s = .next
    (mirrored { s with style := (v &&& 3).truncate 2 } (fieldMode ((v >>> 2) &&& 3).toNat)) := by
  rw [← mirrorOfField_high, truncate_and_three]; rfl

theorem exec_v2ChrLowRow (r : Fin 8) :
    exec (v2ChrLowRow r ca v) s = .next (s.setChrReg r (lowHalf s.chrReg[r] v)) := by
  fin_cases r <;> rfl

theorem exec_v2ChrHighRow (r : Fin 8) :
    exec (v2ChrHighRow r ca v) s = .next (s.setChrReg r (highHalf s.chrReg[r] v)) := by
  fin_cases r <;> rfl

theorem exec_v3ChrRow (r : Fin 8) : exec (v3ChrRow r ca v) s = .next (s.setChrReg r v) := by
  fin_cases r <;> rfl

/-- Applying `f` to CHR register `r` changes that register alone. -/
theorem getElem_setChrReg (r k : Fin 8) (f : Byte → Byte) :
    (s.setChrReg r (f s.chrReg[r])).chrReg[k] = if k.val = r.val then f s.chrReg[k] else s.chrReg[k] := by
  by_cases hk : k = r
  · subst hk; simp
  · have hkr : k.val ≠ r.val := fun e => hk (Fin.ext e)
    simp [hkr, Vector.getElem_set_ne, hkr.symm]

end rows

/-- Settles O42: only the rows with a two-bit mirroring field (R254, R266) need more than the update they are. -/
theorem prgAndMirrorRows : Obligations.PrgAndMirrorRows := fun s ca v =>
  ⟨rfl, rfl, rfl, rfl, exec_v2Mirror s ca v, rfl, rfl, rfl, exec_v3BankingControl s ca v⟩

/-- Settles O43, a row per register and half. -/
theorem v2ChrRows : Obligations.V2ChrRows := fun s r ca v =>
  ⟨exec_v2ChrLowRow s ca v r, exec_v2ChrHighRow s ca v r⟩

/-- Settles O44, a row per register and the rows without effect one by one. -/
theorem v3ChrAndNopRows : Obligations.V3ChrAndNopRows := fun s ca v =>
  ⟨exec_v3ChrRow s ca v, List.forall_iff_forall_mem.1 ⟨rfl, rfl, rfl, rfl, rfl, rfl⟩⟩

/-- Settles O45: the rows of V2 and V3 that strobe alike have one meaning, the strobe through `setIrq`. -/
theorem irqRows : Obligations.IrqRows := by
  intro s ca v
  refine ⟨congrArg _ (setIrq_setLatch s _), congrArg _ (setIrq_setLatch s _), congrArg _ (setIrq_setLatch s v),
    ?control, ?ack⟩
  case control =>
    have hstrobe := setIrq_setControl s v
    exact List.forall_iff_forall_mem.1 ⟨congrArg _ hstrobe, congrArg _ hstrobe⟩
  case ack =>
    have hstrobe := setIrq_eq_withIrq s s.irq.ack
    exact List.forall_iff_forall_mem.1 ⟨congrArg _ hstrobe, congrArg _ hstrobe⟩

/-! ### The row an address reaches, by group and selector (30_encoding.md R100, R108) -/

section addresses

variable {s : State} {i j : Instr} {ca : Word} {v : Byte} {m : Variant}

theorem exec_of_decodeReg (h : ReachesMap s i ca v) (hv : s.variant = m) (hrow : decodeReg m ca v = some j) :
    exec i s = exec j s :=
  (registerWriteReachesItsRow s i ca v h).1 j (hv ▸ hrow)

theorem regGroup_eq_ofNat {g : Nat} (hg : ca.toNat / 4096 = g) : regGroup ca = BitVec.ofNat 4 g := by
  rw [← hg, ← regGroup_toNat, BitVec.ofNat_toNat, BitVec.setWidth_eq]

theorem regSel_eq_ofNat {sel : Nat} (hsel : ca.toNat % 4 = sel) : regSel ca = BitVec.ofNat 2 sel := by
  rw [← hsel, ← regSel_toNat, BitVec.ofNat_toNat, BitVec.setWidth_eq]

/-- Bit 1 of a canonical address is the high bit of its selector. -/
theorem regSel_of_bit1 : (ca.getLsbD 1 = false → regSel ca = 0 ∨ regSel ca = 1) ∧
    (ca.getLsbD 1 = true → regSel ca = 2 ∨ regSel ca = 3) := by
  have hbit : ca.getLsbD 1 = (regSel ca).getLsbD 1 := by simp [regSel]
  rw [hbit]
  generalize regSel ca = sel
  revert sel
  decide

/-- V2 has two CHR registers to a group from `0xB` on, and two halves to a register (45_mapper_variants.md R256). -/
theorem decodeReg_v2ChrRow (r : Fin 8) (hg : ca.toNat / 4096 = 0xB + r / 2) :
    (ca.toNat % 4 = r % 2 * 2 → decodeReg .v2 ca v = some (v2ChrLowRow r ca v)) ∧
    (ca.toNat % 4 = r % 2 * 2 + 1 → decodeReg .v2 ca v = some (v2ChrHighRow r ca v)) := by
  constructor <;> intro hsel
  all_goals
    have hmatch := And.intro (regGroup_eq_ofNat hg) (regSel_eq_ofNat hsel)
    fin_cases r <;> exact decodeReg_of_row rfl rfl ((rowMatches_group_sel_iff rfl).2 hmatch)

/-- V3 has four CHR registers to a group from `0xD` on (45_mapper_variants.md R265). -/
theorem decodeReg_v3ChrRow (r : Fin 8) (hg : ca.toNat / 4096 = 0xD + r / 4) (hsel : ca.toNat % 4 = r % 4) :
    decodeReg .v3 ca v = some (v3ChrRow r ca v) := by
  have hmatch := And.intro (regGroup_eq_ofNat hg) (regSel_eq_ofNat hsel)
  fin_cases r <;> exact decodeReg_of_row rfl rfl ((rowMatches_group_sel_iff rfl).2 hmatch)

end addresses

/-! ### The register maps -/

/-- Settles O34: V0's map is one row behind bit 15. -/
theorem v0RegisterMap : Obligations.V0RegisterMap := by
  intro s i ca v hv h
  rw [exec_of_reachesMap h, hv, regWrite]
  split <;> rfl

/-- Settles O35: V1's map is one row behind bit 15. -/
theorem v1RegisterMap : Obligations.V1RegisterMap := by
  intro s i ca v hv h
  rw [exec_of_reachesMap h, hv, regWrite]
  split <;> rfl

/-- Settles O36: the group, and in group 9 the selector's high bit, name the row. -/
theorem v2PrgAndMirrorMap : Obligations.V2PrgAndMirrorMap := by
  intro s i ca v hv h
  obtain ⟨-, -, hprg0, hprg1, hmirror, hnop, -⟩ := prgAndMirrorRows s ca v
  refine ⟨fun hg => (exec_of_decodeReg h hv ?prg0).trans hprg0,
    fun hg hbit => (exec_of_decodeReg h hv ?mirror).trans hmirror,
    fun hg hbit => (exec_of_decodeReg h hv ?nop).trans hnop, fun hg => (exec_of_decodeReg h hv ?prg1).trans hprg1⟩
  case prg0 | prg1 => exact decodeReg_of_row rfl rfl ((rowMatches_group_iff rfl rfl).2 hg)
  case mirror =>
    exact decodeReg_of_row rfl rfl ((rowMatches_group_selHigh_iff rfl rfl).2 ⟨hg, regSel_of_bit1.1 hbit⟩)
  case nop => exact decodeReg_of_row rfl rfl ((rowMatches_group_selHigh_iff rfl rfl).2 ⟨hg, regSel_of_bit1.2 hbit⟩)

/-- Settles O37: group and `sel[1]` give the register, and `sel[0]` decides between its two rows. -/
theorem v2ChrMap : Obligations.V2ChrMap := by
  intro s i ca v g sel hv h hg hsel hlo hhi
  obtain ⟨r, hr⟩ : ∃ r : Fin 8, r.val = (g - 0xB) * 2 + sel / 2 := ⟨⟨_, by omega⟩, rfl⟩
  obtain ⟨hlow, hhigh⟩ := decodeReg_v2ChrRow (v := v) r (ca := ca) (by omega)
  simp only [← hr]
  by_cases heven : sel % 2 = 0
  · refine ⟨_, (exec_of_decodeReg h hv (hlow (by omega))).trans (exec_v2ChrLowRow s ca v r), rfl, fun k => ?_⟩
    rw [if_pos heven]
    exact getElem_setChrReg s r k (lowHalf · v)
  · refine ⟨_, (exec_of_decodeReg h hv (hhigh (by omega))).trans (exec_v2ChrHighRow s ca v r), rfl, fun k => ?_⟩
    rw [if_neg heven]
    exact getElem_setChrReg s r k (highHalf · v)

/-- Settles O38: the selector names the row. -/
theorem v2IrqMap : Obligations.V2IrqMap := by
  intro s i ca v hv h hg
  obtain ⟨hlow, hhigh, -, hcontrol, hack⟩ := irqRows s ca v
  refine ⟨fun hsel => (exec_of_decodeReg h hv ?_).trans hlow, fun hsel => (exec_of_decodeReg h hv ?_).trans hhigh,
    fun hsel => (exec_of_decodeReg h hv ?_).trans (hcontrol _ (.head _)),
    fun hsel => (exec_of_decodeReg h hv ?_).trans (hack _ (.head _))⟩
  all_goals exact decodeReg_of_row rfl rfl ((rowMatches_group_sel_iff rfl).2 ⟨hg, hsel⟩)

/-- Settles O39: the sound rows are those of groups 9 and 0xA and three of group 0xB. -/
theorem v3PrgAndSoundMap : Obligations.V3PrgAndSoundMap := by
  intro s i ca v hv h
  obtain ⟨-, -, -, -, -, -, hprg0, hprg1, -⟩ := prgAndMirrorRows s ca v
  have hnop {j : Instr} (hformat : j.format = .regw .v3) (hword : j.regWord = some (ca, v))
      (hmatch : j.wellFormed = true) (hj : exec j s = .next s) : exec i s = .next s :=
    (exec_of_decodeReg h hv (decodeReg_of_row hformat hword hmatch)).trans hj
  refine ⟨fun hg => (exec_of_decodeReg h hv ?prg0).trans hprg0, fun hg => (exec_of_decodeReg h hv ?prg1).trans hprg1,
    ?sound⟩
  case prg0 | prg1 => exact decodeReg_of_row rfl rfl ((rowMatches_group_iff rfl rfl).2 hg)
  case sound =>
    rintro (hg | hg | ⟨hg, hne⟩)
    · exact hnop (j := .v3Sound9Nop ca v) rfl rfl ((rowMatches_group_iff rfl rfl).2 hg) rfl
    · exact hnop (j := .v3SoundANop ca v) rfl rfl ((rowMatches_group_iff rfl rfl).2 hg) rfl
    · have hmem := regSel_mem ca
      simp only [List.mem_cons, List.not_mem_nil, or_false] at hmem
      obtain hsel | hsel | hsel | hsel := hmem
      · exact hnop (j := .v3SoundB0Nop ca v) rfl rfl ((rowMatches_group_sel_iff rfl).2 ⟨hg, hsel⟩) rfl
      · exact hnop (j := .v3SoundB1Nop ca v) rfl rfl ((rowMatches_group_sel_iff rfl).2 ⟨hg, hsel⟩) rfl
      · exact hnop (j := .v3SoundB2Nop ca v) rfl rfl ((rowMatches_group_sel_iff rfl).2 ⟨hg, hsel⟩) rfl
      · exact absurd hsel hne

/-- Settles O40: group and selector give the CHR register, and the last of group 0xB is the banking control. -/
theorem v3ChrAndBankingMap : Obligations.V3ChrAndBankingMap := by
  intro s i ca v g sel hv h hg hsel
  refine ⟨fun hchr => ?chr, fun hgroup hsel3 => ?banking⟩
  case chr =>
    obtain ⟨r, hr⟩ : ∃ r : Fin 8, r.val = (g - 0xD) * 4 + sel := ⟨⟨_, by omega⟩, rfl⟩
    have hrow := decodeReg_v3ChrRow (v := v) r (ca := ca) (by omega) (by omega)
    simp only [← hr]
    exact ⟨_, (exec_of_decodeReg h hv hrow).trans (exec_v3ChrRow s ca v r), rfl,
      fun k => getElem_setChrReg s r k fun _ => v⟩
  case banking =>
    have hmatch := And.intro (regGroup_eq_ofNat (hg.trans hgroup)) (regSel_eq_ofNat (hsel.trans hsel3))
    have hrow := decodeReg_of_row (i := .v3BankingControl ca v) rfl rfl ((rowMatches_group_sel_iff rfl).2 hmatch)
    exact (exec_of_decodeReg h hv hrow).trans (exec_v3BankingControl s ca v)

/-- Settles O41: the selector names the row. -/
theorem v3IrqMap : Obligations.V3IrqMap := by
  intro s i ca v hv h hg
  obtain ⟨-, -, hlatch, hcontrol, hack⟩ := irqRows s ca v
  have hnop := (v3ChrAndNopRows s ca v).2 (.v3UnmatchedF3Nop ca v) (by simp)
  refine ⟨fun hsel => (exec_of_decodeReg h hv ?_).trans hlatch,
    fun hsel => (exec_of_decodeReg h hv ?_).trans (hcontrol _ (.tail _ (.head _))),
    fun hsel => (exec_of_decodeReg h hv ?_).trans (hack _ (.tail _ (.head _))),
    fun hsel => (exec_of_decodeReg h hv ?_).trans hnop⟩
  all_goals exact decodeReg_of_row rfl rfl ((rowMatches_group_sel_iff rfl).2 ⟨hg, hsel⟩)

end Sys2Proof.Proofs.MapperVariants

end

section

namespace Sys2Proof.Proofs.Mirroring

open Sys2Proof Sys2Proof.Machine Sys2Proof.Statements
open Sys2Proof.Proofs.Invariants (exec_cmdEffect writeSlot_registerFile load_mirror)
open Sys2Proof.Proofs.Encoding (decodeReg_row)
open Sys2Proof.Proofs.MapperCommon (registerWriteReachesItsRow)
open Sys2Proof.Proofs.PcbOverride (exec_init)

/-! ### The outputs `nt_mode` and `nt_page` (46_mirroring_selector.md R280, R281) -/

theorem ntMode_of_noOverride {s : State} (h : s.mirror = .noOverride) : s.ntMode = s.rom.declMirror := by
  rw [State.ntMode, State.effMirror, h]

theorem ntMode_of_mode {s : State} {m : NtMode} (h : s.mirror = .mode m) : s.ntMode = m := by
  rw [State.ntMode, State.effMirror, h]

/-- Settles O50: one equation of `nt_mode` for each kind of value in the mirroring register. -/
theorem effectiveMirroring : Obligations.EffectiveMirroring := fun _ =>
  ⟨ntMode_of_noOverride, fun _ => ntMode_of_mode⟩

/-- The number whose two bits are `hi` and `lo`. -/
theorem toNat_ofBool_append (hi lo : Bool) :
    (BitVec.ofBool hi ++ BitVec.ofBool lo).toNat = 2 * hi.toNat + lo.toNat := by
  revert hi lo; decide

theorem toNat_ofBool_false_append (lo : Bool) : (BitVec.ofBool false ++ BitVec.ofBool lo).toNat = lo.toNat := by
  rw [toNat_ofBool_append, Bool.toNat_false, Nat.mul_zero, Nat.zero_add]

/-- Settles O51: the page's high bit is 0 but in four-screen mode. -/
theorem nametablePages : Obligations.NametablePages := by
  intro s a11 a10
  change (ntPageOf s.ntMode a11 a10).toNat = _
  cases s.ntMode with
  | horizontal => exact toNat_ofBool_false_append a11
  | vertical => exact toNat_ofBool_false_append a10
  | singleA | singleB => rfl
  | fourScreen => exact toNat_ofBool_append a11 a10

/-! ### The writers of `mirror` (46_mirroring_selector.md R282) -/

section writers

variable {i : Instr} {s t : State}

/-- A bus write to a register slot leaves the state, or performs the row its address decodes to. -/
theorem same_or_performs_of_wReg {x : Slot} {a : Word} {v : Byte} (haccess : WriteAccess s i x a v)
    (hk : x.wk = .wReg) (h : exec i s = .next t) :
    t = s ∨ ∃ j, Performs s i j ∧ j.format ≠ .cmd ∧ exec j s = .next t := by
  obtain ⟨hrow, hnone, -⟩ := registerWriteReachesItsRow s i _ v ⟨x, a, haccess, hk, rfl⟩
  cases hdecode : decodeReg s.variant (swizzle s.wiring a) v with
  | none => cases (hnone hdecode).symm.trans h; exact .inl rfl
  | some j =>
    obtain ⟨hf, -⟩ := decodeReg_row hdecode
    exact .inr ⟨j, .inr ⟨x, a, v, haccess, hk, hdecode⟩, by simp [hf], (hrow j hdecode).symm.trans h⟩

/-- An operation other than `INIT` leaves `mirror` or performs a row. -/
theorem mirror_same_or_performs (hinit : i ≠ .init) (h : exec i s = .next t) :
    t.mirror = s.mirror ∨ ∃ j, Performs s i j ∧ j.format ≠ .cmd ∧ exec j s = .next t := by
  by_cases hf : i.format = .cmd
  · cases exec_cmdEffect hf h with
    | write haccess hwrite =>
      obtain ⟨hk, -⟩ | ⟨-, rfl⟩ | hsame := writeSlot_registerFile hwrite
      · exact (same_or_performs_of_wReg haccess hk h).imp_left (congrArg State.mirror)
      · exact .inl rfl
      · exact .inl hsame.mirror
    | load hi => exact absurd hi hinit
    | count _ _ => exact .inl rfl
    | same hsame => exact .inl hsame.mirror
  · exact .inr ⟨i, .inl rfl, hf, h⟩

/-- Among the rows three change `mirror`. -/
theorem mirror_row_of_changed (hf : i.format ≠ .cmd) (h : exec i s = .next t) (hchanged : t.mirror ≠ s.mirror) :
    ∃ ca v, i = .v1PrgselMirror ca v ∨ i = .v2Mirror ca v ∨ i = .v3BankingControl ca v := by
  cases i
  case v1PrgselMirror ca v => exact ⟨ca, v, .inl rfl⟩
  case v2Mirror ca v => exact ⟨ca, v, .inr (.inl rfl)⟩
  case v3BankingControl ca v => exact ⟨ca, v, .inr (.inr rfl)⟩
  case rd | wr | grd | gwr | setrf | setwf | gsetrf | gsetwf | init | apply | tick | classify | lookup =>
    exact absurd rfl hf
  all_goals cases h; exact absurd rfl hchanged

theorem init_mirror (h : exec .init s = .next t) : t.mirror = .noOverride := by
  rw [exec_init] at h
  cases h
  exact load_mirror _ _ _

end writers

/-- Each of the three rows ends in `State.writeMirror` of a mode that its field can name. -/
theorem mirror_rows (s : State) (ca : Word) (v : Byte) :
    ∀ i ∈ [Instr.v1PrgselMirror ca v, .v2Mirror ca v, .v3BankingControl ca v],
      ∃ (u : State) (m : NtMode), exec i s = .next (u.writeMirror m) ∧ u.events = s.events ∧ m ≠ .fourScreen :=
  List.forall_iff_forall_mem.1
    ⟨⟨_, _, rfl, rfl, mirrorOfBit_ne _⟩, ⟨_, _, rfl, rfl, mirrorOfField_ne _⟩, ⟨_, _, rfl, rfl, mirrorOfField_ne _⟩⟩

/-- Settles O52: apart from `INIT` a change of `mirror` is that of a row, and the rows that change it end in the shared
mirroring write. -/
theorem mirrorWritersOnly : Obligations.MirrorWritersOnly := by
  refine ⟨fun i s t h hchanged => ?writer, fun s ca v i hi => ?row⟩
  case writer =>
    by_cases hinit : i = .init
    · subst hinit
      exact .inl ⟨rfl, init_mirror h⟩
    · obtain hsame | ⟨j, hj, hf, hexec⟩ := mirror_same_or_performs hinit h
      · exact absurd hsame hchanged
      · obtain ⟨ca, v, rfl | rfl | rfl⟩ := mirror_row_of_changed hf hexec hchanged
        · exact .inr ⟨ca, v, .inl hj⟩
        · exact .inr ⟨ca, v, .inr (.inl hj)⟩
        · exact .inr ⟨ca, v, .inr (.inr hj)⟩
  case row =>
    obtain ⟨u, m, hexec, hevents, hm⟩ := mirror_rows s ca v i hi
    have hstored : (u.writeMirror m).mirror = .mode m := writeMirror_mirror u m
    have heffective : (u.writeMirror m).effMirror = m := ntMode_of_mode hstored
    exact ⟨_, m, hexec, hstored, hm, by rw [writeMirror_events, hevents, heffective]⟩

end Sys2Proof.Proofs.Mirroring

end

section

namespace Sys2Proof.Proofs.Exceptions

open Sys2Proof Sys2Proof.Machine

theorem writeSlot_completes (s : State) (x : Slot) (a : Word) (v : Byte) : Completes (s.writeSlot x a v) := by
  obtain ⟨t, ht, -⟩ := writeSlot_cases s x a v
  exact ⟨t, ht⟩

theorem execTick_completes (s : State) : Completes (execTick s) := by
  unfold execTick
  split <;> exact ⟨_, rfl⟩

/-- Every instruction has a next state: outside the bus writes and `TICK` its meaning answers one outright. -/
theorem exec_completes (i : Instr) (s : State) : Completes (exec i s) := by
  cases i
  case wr a v => exact writeSlot_completes _ _ _ _
  case gwr a v => exact writeSlot_completes _ _ _ _
  case tick => exact execTick_completes s
  all_goals exact ⟨_, rfl⟩

/-- A step has a next state, unless the next word is not a command (30_encoding.md R99). -/
theorem step_completes_or_refuses (s : State) :
    Completes (step s) ∨ ∃ why, step s = .refused (.notACommand why) := by
  unfold step
  split
  · exact .inl ⟨s, rfl⟩
  · split
    · exact .inl (exec_completes _ _)
    · exact .inr ⟨_, rfl⟩

/-- Settles O8: a step that completes or refuses does not fault. -/
theorem everyOperationCompletes : Obligations.EveryOperationCompletes := by
  refine ⟨exec_completes, fun s r hfault => ?_⟩
  obtain ⟨t, ht⟩ | ⟨why, hrefused⟩ := step_completes_or_refuses s
  · cases hfault.symm.trans ht
  · cases hfault.symm.trans hrefused

end Sys2Proof.Proofs.Exceptions

end

section

namespace Sys2Proof.Proofs.Reset

open Sys2Proof Sys2Proof.Machine Sys2Proof.Statements
open Sys2Proof.Proofs.BusDispatch (openBusAndExternalReads ignoredAndExternalWrites)
open Sys2Proof.Proofs.MapperCommon (exec_tick_of_noIrq)

section access

variable {i : Instr} {x : Slot} {a : Word}

/-- At power-on every bus access goes through the default slot (70_reset_and_hazards.md R320). -/
theorem readAccess_reset (h : ReadAccess State.reset i x a) : x = Slot.default := by
  obtain ⟨-, hx⟩ | ⟨g, -, hx, -⟩ := h <;> exact hx

theorem writeAccess_reset {v : Byte} (h : WriteAccess State.reset i x a v) : x = Slot.default := by
  obtain ⟨-, hx⟩ | ⟨g, -, hx, -⟩ := h <;> exact hx

theorem exec_read_reset (h : ReadAccess State.reset i x a) :
    exec i State.reset = .next (openBusAnswer State.reset) := by
  obtain ⟨hopen, -⟩ := openBusAndExternalReads _ _ _ _ h
  exact hopen (congrArg Slot.rk (readAccess_reset h))

theorem exec_write_reset {v : Byte} (h : WriteAccess State.reset i x a v) :
    exec i State.reset = .next State.reset := by
  obtain ⟨hignore, -⟩ := ignoredAndExternalWrites _ _ _ _ _ h
  exact hignore (congrArg Slot.wk (writeAccess_reset h))

end access

/-- The class of power-on has no IRQ counter. -/
theorem exec_tick_reset : exec .tick State.reset = .next State.reset := exec_tick_of_noIrq rfl

/-- Settles O54: the registers by the definition of power-on, the bus by what the default slot's two kinds do. -/
theorem powerOn : Obligations.PowerOn := by
  refine ⟨fun _ => ⟨rfl, rfl⟩, rfl, rfl, ?prg, ?chr, rfl, rfl, rfl, rfl, rfl, rfl, fun _ => rfl,
    fun _ _ _ => exec_read_reset, fun _ _ _ _ => exec_write_reset, exec_tick_reset⟩
  case prg => simp [State.reset]
  case chr => simp [State.reset]

end Sys2Proof.Proofs.Reset

end
